-- ==== Sys2Proof/Word.lean ====
section
/-! DEFINITION. Bytes and the two small index shapes of the part: four of a kind (heads, seam slots) and one per port. -/

namespace Sys2Proof

/-- One byte of a packet, a reply or the stored image. -/
abbrev Byte := BitVec 8

/-- The numbers 0 to 3 that name a head or a seam slot (00, Names and numbers). -/
inductive Idx4 where
  | i0 | i1 | i2 | i3
deriving DecidableEq, Repr

/-- Head k, one of the four outputs. -/
abbrev Head := Idx4

/-- Seam slot s. -/
abbrev Slot := Idx4

namespace Idx4

/-- The index as a number. -/
def toNat : Idx4 → Nat
  | i0 => 0 | i1 => 1 | i2 => 2 | i3 => 3

/-- The index a number names, if it is in 0..3. -/
def ofNat? : Nat → Option Idx4
  | 0 => some i0 | 1 => some i1 | 2 => some i2 | 3 => some i3 | _ => none

/-- The four indexes in ascending order. -/
def all : List Idx4 := [i0, i1, i2, i3]

end Idx4

/-- Four of a kind, one for each index. -/
structure Quad (α : Type) where
  a0 : α
  a1 : α
  a2 : α
  a3 : α
deriving DecidableEq, Repr

namespace Quad

/-- The part at an index. -/
def get {α : Type} (q : Quad α) : Idx4 → α
  | .i0 => q.a0 | .i1 => q.a1 | .i2 => q.a2 | .i3 => q.a3

/-- The quad with one part replaced. -/
def set {α : Type} (q : Quad α) (i : Idx4) (x : α) : Quad α :=
  match i with
  | .i0 => { q with a0 := x }
  | .i1 => { q with a1 := x }
  | .i2 => { q with a2 := x }
  | .i3 => { q with a3 := x }

/-- Four equal parts. -/
def const {α : Type} (x : α) : Quad α := ⟨x, x, x, x⟩

/-- Every part through a function. -/
def map {α β : Type} (f : α → β) (q : Quad α) : Quad β := ⟨f q.a0, f q.a1, f q.a2, f q.a3⟩

/-- The quad whose part at each index is given by a function of the index. -/
def ofFn {α : Type} (f : Idx4 → α) : Quad α := ⟨f .i0, f .i1, f .i2, f .i3⟩

/-- The four parts in ascending order of index. -/
def toList {α : Type} (q : Quad α) : List α := [q.a0, q.a1, q.a2, q.a3]

end Quad

/-- The five ports: head port Hk of head k, and the alignment port AP (11, R160). -/
inductive Port where
  | head (k : Head)
  | ap
deriving DecidableEq, Repr

/-- One of a kind for each port. -/
structure PerPort (α : Type) where
  heads : Quad α
  ap : α
deriving DecidableEq, Repr

namespace PerPort

/-- The part of a port. -/
def get {α : Type} (q : PerPort α) : Port → α
  | .head k => q.heads.get k
  | .ap => q.ap

/-- The collection with one port's part replaced. -/
def set {α : Type} (q : PerPort α) (p : Port) (x : α) : PerPort α :=
  match p with
  | .head k => { q with heads := q.heads.set k x }
  | .ap => { q with ap := x }

/-- Every part through a function. -/
def map {α β : Type} (f : α → β) (q : PerPort α) : PerPort β := ⟨q.heads.map f, f q.ap⟩

/-- Five equal parts. -/
def const {α : Type} (x : α) : PerPort α := ⟨Quad.const x, x⟩

end PerPort

end Sys2Proof
end

