-- ==== Sys2Proof/Syntax.lean ====
section
/-! DEFINITION. The commands: one constructor per row of spec/opcode_table.json. -/

namespace Sys2Proof

/-- The common rate of the five ports, chosen by the rate straps (R160). -/
inductive BaudRate where
  | b115200 | b460800 | b1000000 | b3000000
deriving DecidableEq, Repr

/-- Bits per channel of a head's link (R14) or of a source frame (R136). -/
inductive Depth where
  | d8 | d10 | d12
deriving DecidableEq, Repr

/-- One value for each of the channels R, G and B. -/
structure Rgb where
  r : Nat
  g : Nat
  b : Nat
deriving DecidableEq, Repr

/-- Bytes that arrive on a port's line while a chunk of a long mesh operation runs, and how many nodes
the chunk has processed when the last of them arrives (R45, log 6). -/
structure Arrival where
  after : Nat
  port : Port
  bytes : List Byte
deriving DecidableEq, Repr

/-- What the flash answers to a read (R179): the bytes brought, and whether the flash has failed. As Flash.answer
takes them, the bytes stand for what the part does not know of the flash, and for all it programmed where the
flash has failed (logs 15 and 37). -/
structure FlashAnswer where
  bytes : List Byte
  failed : Bool
deriving DecidableEq, Repr

/-- What a source frame opens with (R136): its bits per channel, and the pixels of its first line, which give its
width, or 0 while that line has not come (R145, log 10). -/
structure FrameOpening where
  bits : Depth
  width : Nat
deriving DecidableEq, Repr

/-- The commands of the part, one per row of the table. The table gives its rows no fields. An event of a
link, a line or a timer carries what the event brings. A request carries its port, its TAG and its body,
laid out as R163 gives; it is the Request Executor's carrying out of that request (R169, log 4). -/
inductive Instr where
  /-- COLD_RESET (R179): the reset ends, with the rate straps as they stand. -/
  | coldReset (straps : BaudRate)
  /-- FLASH_IDENTIFY_ANSWERED (R179): the identification bytes the flash returned. -/
  | flashIdentifyAnswered (ident : List Byte)
  /-- HEADER_READ_ANSWERED (R179): the header area. -/
  | headerReadAnswered (read : FlashAnswer)
  /-- BODY_READ_ANSWERED (R179): the next part of the body. -/
  | bodyReadAnswered (read : FlashAnswer)
  /-- STARTUP_FLASH_TIMEOUT (R179). -/
  | startupFlashTimeout
  /-- FRAME_PERIOD_EXPIRY (R5). -/
  | framePeriodExpiry
  /-- FOLLOW_TIMEOUT (R7). -/
  | followTimeout
  /-- FADE_SETTLE (R77) of one seam slot. -/
  | fadeSettle (slot : Slot)
  /-- HOLD_TIME_EXPIRY (R143). -/
  | holdTimeExpiry
  /-- SOURCE_FRAME_START (R146): what the frame opens with, the time since the previous source frame start in
  ticks, and whether the showing step comes before the filling step (R147, log 12). -/
  | sourceFrameStart (opening : FrameOpening) (interval : Nat) (showFirst : Bool)
  /-- SOURCE_FRAME_END (R138): the lines of the frame as the link brought them, each a list of pixels. -/
  | sourceFrameEnd (lines : List (List Rgb))
  /-- SOURCE_LOSS (R142). -/
  | sourceLoss
  /-- DETECT_LINE_CHANGE (R91): the line of a head and its new level, true when asserted. -/
  | detectLineChange (h : Head) (level : Bool)
  /-- SINK_DEBOUNCE_EXPIRY (R91) of one detect line. -/
  | sinkDebounceExpiry (h : Head)
  /-- PRESENCE_EXPIRY (R86) of one head. -/
  | presenceExpiry (h : Head)
  /-- CLAIM_LAPSE (R25) on one head. -/
  | claimLapse (h : Head)
  /-- PACKET_RECEIVED (R165): the bytes that arrive on a port's line, the last of them ending a packet. -/
  | packetReceived (p : Port) (bytes : List Byte)
  /-- RECEIVE_GAP_TIMEOUT (R161) on one port. -/
  | receiveGapTimeout (p : Port)
  /-- BROKEN_BYTE (R161) on one port. -/
  | brokenByte (p : Port)
  /-- LEN_OVERSIZE (R161): the LEN byte that arrives. -/
  | lenOversize (p : Port) (len : Byte)
  /-- REPLY_SENT (R168): the first reply of a port's buffer has been sent. -/
  | replySent (p : Port)
  | status (p : Port) (tag : Byte) (body : List Byte)
  | noticeRead (p : Port) (tag : Byte) (body : List Byte)
  | noticeMask (p : Port) (tag : Byte) (body : List Byte)
  | restart (p : Port) (tag : Byte) (body : List Byte)
  | outputSetup (p : Port) (tag : Byte) (body : List Byte)
  | outputStart (p : Port) (tag : Byte) (body : List Byte)
  | outputStop (p : Port) (tag : Byte) (body : List Byte)
  | headSetup (p : Port) (tag : Byte) (body : List Byte)
  | headQuery (p : Port) (tag : Byte) (body : List Byte)
  | headMode (p : Port) (tag : Byte) (body : List Byte)
  | meshWrite (p : Port) (tag : Byte) (body : List Byte)
  | meshRead (p : Port) (tag : Byte) (body : List Byte)
  | meshCommit (p : Port) (tag : Byte) (body : List Byte)
  | meshDiscard (p : Port) (tag : Byte) (body : List Byte)
  | meshHold (p : Port) (tag : Byte) (body : List Byte)
  | meshQuery (p : Port) (tag : Byte) (body : List Byte)
  /-- A long operation also carries what arrives on the ports while its chunk runs (R45). -/
  | meshGenerate (p : Port) (tag : Byte) (body : List Byte) (during : List Arrival)
  | meshShift (p : Port) (tag : Byte) (body : List Byte) (during : List Arrival)
  | meshCopy (p : Port) (tag : Byte) (body : List Byte) (during : List Arrival)
  | seamDefine (p : Port) (tag : Byte) (body : List Byte)
  | seamDelete (p : Port) (tag : Byte) (body : List Byte)
  | seamQuery (p : Port) (tag : Byte) (body : List Byte)
  | seamPin (p : Port) (tag : Byte) (body : List Byte)
  | seamFades (p : Port) (tag : Byte) (body : List Byte)
  | curveWrite (p : Port) (tag : Byte) (body : List Byte)
  | curveRead (p : Port) (tag : Byte) (body : List Byte)
  | headState (p : Port) (tag : Byte) (body : List Byte)
  | presenceSetup (p : Port) (tag : Byte) (body : List Byte)
  | tableWrite (p : Port) (tag : Byte) (body : List Byte)
  | tableRead (p : Port) (tag : Byte) (body : List Byte)
  | tableCommit (p : Port) (tag : Byte) (body : List Byte)
  | liftSet (p : Port) (tag : Byte) (body : List Byte)
  | sourceQuery (p : Port) (tag : Byte) (body : List Byte)
  | holdSetup (p : Port) (tag : Byte) (body : List Byte)
  | layoutRead (p : Port) (tag : Byte) (body : List Byte)
  | layoutApply (p : Port) (tag : Byte) (body : List Byte)
  | save (p : Port) (tag : Byte) (body : List Byte)
  /-- SAVE_ERASE_DONE (R184). -/
  | saveEraseDone
  /-- SAVE_PAGE_PROGRAMMED (R184). -/
  | savePageProgrammed
  /-- SAVE_HEADER_PROGRAMMED (R184). -/
  | saveHeaderProgrammed
  /-- SAVE_VERIFY_READ (R184): the next part of the read-back, as a read of the cold start brings its bytes. -/
  | saveVerifyRead (read : FlashAnswer)
  /-- SAVE_FLASH_TIMEOUT (R184). -/
  | saveFlashTimeout
  /-- ABORTED_FLASH_OPERATION_END (R185). -/
  | abortedFlashOperationEnd
deriving DecidableEq, Repr

end Sys2Proof
end

