-- ==== Sys2Proof/Decode.lean ====
section
/-! DEFINITION. What stands on the wires: byte order, the packet check, the request kinds and their body
lengths, and decodeTableWord (the table gives its rows no bits). -/

namespace Sys2Proof

/-- The command a word spells by the table's bits. opcode_table.json gives no row bits, so no word spells one. -/
def decodeTableWord (_nbits _w : Nat) : Option Instr := none

/-! ## Numbers in a body (R162): high byte first, signed numbers in two's complement -/

/-- A number as one byte. -/
def be1 (n : Nat) : List Byte := [BitVec.ofNat 8 n]

/-- A number as two bytes. -/
def be2 (n : Nat) : List Byte := [BitVec.ofNat 8 (n / 256), BitVec.ofNat 8 n]

/-- A number as three bytes. -/
def be3 (n : Nat) : List Byte := [BitVec.ofNat 8 (n / 65536), BitVec.ofNat 8 (n / 256), BitVec.ofNat 8 n]

/-- A number as four bytes. -/
def be4 (n : Nat) : List Byte :=
  [BitVec.ofNat 8 (n / 16777216), BitVec.ofNat 8 (n / 65536), BitVec.ofNat 8 (n / 256), BitVec.ofNat 8 n]

/-- A signed number as three bytes in two's complement. -/
def be3s (i : Int) : List Byte := be3 (i % 16777216).toNat

/-- A yes-or-no value as one byte (R163). -/
def beBool (b : Bool) : List Byte := be1 (if b then 1 else 0)

/-- The byte of a body at a place, 0 past its end. -/
def u8 (l : List Byte) (i : Nat) : Nat := (l.getD i 0).toNat

/-- The two-byte number at a place. -/
def u16 (l : List Byte) (i : Nat) : Nat := u8 l i * 256 + u8 l (i + 1)

/-- The three-byte number at a place. -/
def u24 (l : List Byte) (i : Nat) : Nat := u8 l i * 65536 + u16 l (i + 1)

/-- The four-byte number at a place. -/
def u32 (l : List Byte) (i : Nat) : Nat := u16 l i * 65536 + u16 l (i + 2)

/-- The signed three-byte number at a place. -/
def s24 (l : List Byte) (i : Nat) : Int :=
  if u24 l i < 8388608 then (u24 l i : Int) else (u24 l i : Int) - 16777216

/-! ## The packet check (R161) -/

/-- One bit of the cyclic check with polynomial x^16 + x^15 + x^2 + 1. -/
def crcBit (c : BitVec 16) : BitVec 16 := if c.msb then (c <<< 1) ^^^ 0x8005#16 else c <<< 1

/-- One byte of the cyclic check, most significant bit first. -/
def crcByte (c : BitVec 16) (b : Byte) : BitVec 16 :=
  crcBit (crcBit (crcBit (crcBit (crcBit (crcBit (crcBit (crcBit (c ^^^ (b.setWidth 16 <<< 8)))))))))

/-- The 16-bit cyclic check of a run of bytes: start value 0xFFFF, no reflection, no final inversion. -/
def crc (bytes : List Byte) : BitVec 16 := bytes.foldl crcByte 0xFFFF#16

/-! ## Request kinds (R165, R166) -/

/-- The 37 request kinds. -/
inductive Kind where
  | status | noticeRead | noticeMask | restart
  | outputSetup | outputStart | outputStop | headSetup | headQuery | headMode
  | meshWrite | meshRead | meshCommit | meshDiscard | meshHold | meshQuery
  | meshGenerate | meshShift | meshCopy
  | seamDefine | seamDelete | seamQuery | seamPin | seamFades | curveWrite | curveRead
  | headState | presenceSetup | tableWrite | tableRead | tableCommit | liftSet
  | sourceQuery | holdSetup | layoutRead | layoutApply | save
deriving DecidableEq, Repr

/-- The kind value of a request kind, as its own chapter gives it. -/
def Kind.code : Kind → Byte
  | .status => 0x01 | .noticeRead => 0x02 | .noticeMask => 0x03 | .restart => 0x04
  | .outputSetup => 0x10 | .outputStart => 0x11 | .outputStop => 0x12 | .headSetup => 0x13
  | .headQuery => 0x14 | .headMode => 0x15
  | .meshWrite => 0x20 | .meshRead => 0x21 | .meshCommit => 0x22 | .meshDiscard => 0x23
  | .meshHold => 0x24 | .meshQuery => 0x25
  | .meshGenerate => 0x28 | .meshShift => 0x29 | .meshCopy => 0x2A
  | .seamDefine => 0x30 | .seamDelete => 0x31 | .seamQuery => 0x32 | .seamPin => 0x33
  | .seamFades => 0x34 | .curveWrite => 0x38 | .curveRead => 0x39
  | .headState => 0x40 | .presenceSetup => 0x41
  | .tableWrite => 0x48 | .tableRead => 0x49 | .tableCommit => 0x4A | .liftSet => 0x4B
  | .sourceQuery => 0x50 | .holdSetup => 0x51 | .layoutRead => 0x58 | .layoutApply => 0x59
  | .save => 0x60

/-- The 37 kinds, one after another. -/
def Kind.all : List Kind :=
  [.status, .noticeRead, .noticeMask, .restart, .outputSetup, .outputStart, .outputStop, .headSetup,
   .headQuery, .headMode, .meshWrite, .meshRead, .meshCommit, .meshDiscard, .meshHold, .meshQuery,
   .meshGenerate, .meshShift, .meshCopy, .seamDefine, .seamDelete, .seamQuery, .seamPin, .seamFades,
   .curveWrite, .curveRead, .headState, .presenceSetup, .tableWrite, .tableRead, .tableCommit,
   .liftSet, .sourceQuery, .holdSetup, .layoutRead, .layoutApply, .save]

/-- The request kind a KIND byte names, if this manual defines one (R165). -/
def Kind.ofCode? (b : Byte) : Option Kind := Kind.all.find? fun k => k.code == b

/-- The body length a kind requires (R166); for MESH_WRITE and TABLE_WRITE it follows from the count in
the fourth body byte. -/
def Kind.bodyLength (k : Kind) (body : List Byte) : Nat :=
  match k with
  | .status | .noticeRead | .restart | .outputStart | .outputStop | .save => 0
  | .headQuery | .meshCommit | .meshQuery | .seamDelete | .seamQuery | .curveRead | .tableCommit
  | .sourceQuery => 1
  | .meshDiscard | .meshHold | .seamPin | .headState | .presenceSetup | .holdSetup | .layoutRead
  | .layoutApply => 2
  | .noticeMask | .seamFades => 3
  | .meshRead | .tableRead => 5
  | .outputSetup => 7
  | .meshCopy => 9
  | .seamDefine => 10
  | .headSetup | .meshShift => 11
  | .headMode | .liftSet => 13
  | .meshGenerate => 24
  | .curveWrite => 131
  | .meshWrite => 4 + 7 * u8 body 3
  | .tableWrite => 4 + 2 * u8 body 3

/-- The port's test of a body's length (R166): a MESH_WRITE or TABLE_WRITE body below 4 bytes never passes. -/
def Kind.lengthOk (k : Kind) (body : List Byte) : Bool := decide (body.length = k.bodyLength body)

end Sys2Proof
end

