-- ==== Sys2Proof/Config.lean ====
section
/-! DEFINITION. What the CB4400 fixes once for every part (sizes, limits, periods), and the free values the spec leaves open. -/

namespace Sys2Proof.Config

/-- Ticks in a second: the model counts time in thirds of a microsecond, the longest unit in which
every frame period of 01 (1.1) is whole (log 1). -/
def ticksPerSecond : Nat := 3000000

/-- Ticks in a millisecond. -/
def ticksPerMs : Nat := 3000

/-- The lapse time of a staging claim, 10 s (R25). -/
def lapseTicks : Nat := 30000000

/-- The debounce of a detect line, 200 ms (R91). -/
def debounceTicks : Nat := 600000

/-- The loss time of the source, 100 ms (R142). -/
def lossTicks : Nat := 300000

/-- The first tick past the 20 ms gap that discards a packet (R161). -/
def gapTicks : Nat := 60001

/-- The time a flash operation may take, 1 s (R179, R184). -/
def flashTicks : Nat := 3000000

/-- The least measured source period, 1/60 s (R6). -/
def minPeriod : Nat := 50000

/-- The greatest measured source period, 1,001/24,000 s (R6). -/
def maxPeriod : Nat := 125125

/-- The bytes of a reply buffer (R160). -/
def replyRoom : Nat := 1280

/-- The bytes of the longest reply packet (R162). -/
def longestReply : Nat := 246

/-- The bytes of a packet with an empty body (R162). -/
def shortestReply : Nat := 6

/-- The longest body of a packet (R161). -/
def maxBody : Nat := 240

/-- Entries the Request Queue may hold (R167). -/
def queueEntries : Nat := 12

/-- Body bytes the Request Queue may hold (R167). -/
def queueBytes : Nat := 1536

/-- Entries the Request Queue may hold from one port (R167). -/
def queuePerPort : Nat := 4

/-- Nodes a long mesh operation processes at most in one chunk (R45). -/
def chunkNodes : Nat := 512

/-- Nodes between two looks at the queue inside a chunk (R45). -/
def chunkStep : Nat := 64

/-- The room for a body after the header in the flash area (R179). -/
def bodyRoom : Nat := 130816

/-- The pages of 256 bytes of the flash area, 128 KB (R178). -/
def flashPages : Nat := 512

/-- FREE VALUE (log 36): the two bytes a reply carries for a width or a height above 65,535, which R136 counts
and R164 gives two bytes. -/
opaque wideSize : Nat → BitVec 16

end Sys2Proof.Config
end

