-- ==== Sys2Proof/Machine/Types.lean ====
section
/-! DEFINITION. The records each block of the part holds: plain data types of the state. -/

namespace Sys2Proof.Machine

/-! ## Output Timing (01) -/

/-- The nine fixed rates, rate codes 1 to 9 (1.1). -/
inductive FixedRate where
  | f23976 | f24 | f25 | f2997 | f30 | f48 | f50 | f5994 | f60
deriving DecidableEq, Repr

/-- The rate of the output setup record: SOURCE or a fixed rate (R2). -/
inductive Rate where
  | source
  | fixed (f : FixedRate)
deriving DecidableEq, Repr

/-- The output setup record (R2). -/
structure OutputSetup where
  w : Nat
  h : Nat
  s : Nat
  rate : Rate
  autoStart : Bool
deriving DecidableEq, Repr

/-- Where the next output frame start comes from (R4, R5, R7). -/
inductive Pacing where
  | fixed | following | freeRunning
deriving DecidableEq, Repr

/-- The timing state (R4): STOPPED, or RUNNING with its pacing, its stop-pending flag and the ticks that
have passed since the last output frame start, or since the start while none has come yet (R9). -/
inductive Timing where
  | stopped
  | running (pacing : Pacing) (stopPending : Bool) (elapsed : Nat)
deriving DecidableEq, Repr

/-! ## Head Records (01, 1.6) -/

/-- A tile, by inclusive bounds in canvas units (R14). -/
structure Tile where
  x0 : Nat
  x1 : Nat
  y0 : Nat
  y1 : Nat
deriving DecidableEq, Repr

/-- A pattern record: its kind with the fields the kind uses (R129). -/
inductive Pattern where
  | rawFlat (codes : Rgb)
  | rawGrid (level : Nat)
  | rawDots (level : Nat)
  | canvasGrid (spacing level : Nat)
  | weightView
deriving DecidableEq, Repr

/-- A head's mode; the pattern record is present only in PATTERN (R18). -/
inductive HeadMode where
  | live
  | muted
  | pattern (p : Pattern)
deriving DecidableEq, Repr

/-- The presence period of a head (6.2). -/
inductive Period where
  | off | half | one | two | four | eight
deriving DecidableEq, Repr

/-- A head record (R14). -/
structure HeadRecord where
  enabled : Bool
  tile : Tile
  depth : Depth
  mode : HeadMode
  lift0 : Rgb
  lift1 : Rgb
  hold : Bool
  period : Period
deriving DecidableEq, Repr

/-! ## Presence Monitor (06) -/

/-- The presence state; in PRESENT the presence timer runs, and its ticks are held with it (R84). -/
inductive Presence where
  | notWatched
  | absent
  | present (timer : Nat)
  | lost
deriving DecidableEq, Repr

/-- The light state (R89). -/
inductive Light where
  | on | blocked | standby
deriving DecidableEq, Repr

/-- What the Presence Monitor holds for one head (R84): presence, light, sink state (true when DETECTED),
the level of the detect line (true when asserted), the debounce timer while it runs, the contribution. -/
structure Monitor where
  presence : Presence
  light : Light
  sink : Bool
  line : Bool
  debounce : Option Nat
  contributes : Bool
deriving DecidableEq, Repr

/-! ## Mesh Store (02) -/

/-- A node record, with u and v in sixteenths (2.1). -/
structure Node where
  u : Int
  v : Int
  visible : Bool
deriving DecidableEq, Repr

/-- A staging claim: its owner and the ticks its lapse timer has run (R24). -/
structure Claim where
  owner : Port
  timer : Nat
deriving DecidableEq, Repr

/-- What the Mesh Store holds for one head: the two banks (R20), the staging claim (R24), the
commit-pending flag (R30) and the lapse record (R26). -/
structure HeadMesh where
  active : List Node
  staged : List Node
  claim : Option Claim
  commitPending : Bool
  lapse : Option Port
deriving DecidableEq, Repr

/-! ## Seam Table (04, 05) -/

/-- The orientation of a seam (R55). -/
inductive Orientation where
  | vertical | horizontal
deriving DecidableEq, Repr

/-- A seam mode, also a target and the ends of a fade (R69). -/
inductive SeamMode where
  | shared | soloFalling | soloRising
deriving DecidableEq, Repr

/-- A seam's pin (R73): AUTO or a fixed mode. -/
inductive Pin where
  | auto
  | fixed (m : SeamMode)
deriving DecidableEq, Repr

/-- A fade record (R75): the mode it leaves, the mode it moves to, the frame starts passed, its length. -/
structure Fade where
  src : SeamMode
  dst : SeamMode
  k : Nat
  n : Nat
deriving DecidableEq, Repr

/-- The geometric fields of a seam record (R55). -/
structure SeamGeometry where
  orientation : Orientation
  falling : Head
  rising : Head
  a : Nat
  b : Nat
  curve : Nat
deriving DecidableEq, Repr

/-- A seam record (R55). -/
structure Seam where
  geo : SeamGeometry
  pin : Pin
  nOut : Nat
  nIn : Nat
  mode : SeamMode
  target : SeamMode
  fade : Option Fade
deriving DecidableEq, Repr

/-- What the published seam view holds of one seam (R78). -/
structure SeamLook where
  mode : SeamMode
  fade : Option Fade
deriving DecidableEq, Repr

/-! ## Curve Store and Transfer Tables (04, 08) -/

/-- The five loadable curves, numbers 3 to 7, each a list of 65 entries (R62). -/
structure Curves where
  c3 : List Nat
  c4to7 : Quad (List Nat)
deriving DecidableEq, Repr

/-- One copy, live or staged, of the decode table and the four encode tables (R120). -/
structure Tables where
  decode : List Nat
  encode : Quad (List Nat)
deriving DecidableEq, Repr

/-! ## Source Input and Frame Buffers (09) -/

/-- The input state (R139). -/
inductive InputState where
  | noSignal | acquiring | locked | holding | black | unsupported
deriving DecidableEq, Repr

/-- A frame size Ws by Hs. -/
structure Size where
  w : Nat
  h : Nat
deriving DecidableEq, Repr

/-- What Source Input holds (R139), and whether the last source frame start arrived while LOCKED (R6). -/
structure SourceInput where
  state : InputState
  candidate : Option Size
  runCount : Nat
  locked : Option Size
  holdCount : Nat
  holdTime : Nat
  lossTimer : Option Nat
  bits : Option Depth
  outOfRange : Option Size
  prevStartLocked : Bool
deriving DecidableEq, Repr

/-- A frame held in a buffer: its size and its 12-bit codes, line by line (R137, R145). -/
structure SourceFrame where
  size : Size
  lines : List (List Rgb)
deriving DecidableEq, Repr

/-- A buffer record (R145). A FILLING one holds the width of the frame it is receiving, 0 while the frame's
first line has not come; the height of that frame is held by none before its source frame end (R136, log 10). -/
inductive Buffer where
  | free
  | filling (width : Nat)
  | ready (f : SourceFrame)
  | shown (f : SourceFrame)
deriving DecidableEq, Repr

/-- The three buffer records, numbered 0 to 2 (R145). -/
structure Buffers where
  b0 : Buffer
  b1 : Buffer
  b2 : Buffer
deriving DecidableEq, Repr

/-! ## Output Engines (07) -/

/-- The frame view of one head (R99). -/
structure FrameView where
  head : Head
  w : Nat
  h : Nat
  s : Nat
  enabled : Bool
  tile : Tile
  depth : Depth
  mode : HeadMode
  lift0 : Rgb
  lift1 : Rgb
  bank : List Node
  geometry : Quad (Option SeamGeometry)
  looks : Quad (Option SeamLook)
  curves : Curves
  decode : List Nat
  encode : List Nat
  input : InputState
  source : Option SourceFrame
deriving DecidableEq, Repr

/-! ## Port Interface, Request Queue (11) -/

/-- The receive assembler of a port (R161): hunting, or inside a packet with the bytes taken after the
sync byte and the ticks since the last of them. -/
inductive Assembler where
  | hunt
  | packet (taken : List Byte) (gap : Nat)
deriving DecidableEq, Repr

/-- The six named states of a receive assembler (R161). -/
inductive AssemblerState where
  | hunt | len | tag | kind | body | check
deriving DecidableEq, Repr

/-- The reply statuses (R170). -/
inductive Status where
  | done | adjusted | partialDone | wait | busy | denied | invalid | conflict | lapsed
  | checkfail | unknown | aborted | malformed
deriving DecidableEq, Repr

/-- A reply packet (R162), whose sync, LEN and CHECK follow from these fields. -/
structure Reply where
  tag : Byte
  status : Status
  body : List Byte
deriving DecidableEq, Repr

/-- A set of the 19 notice kinds: bit n stands for kind n (R172). -/
abbrev NoticeSet := BitVec 19

/-- What one port holds (R160, R172). -/
structure PortState where
  assembler : Assembler
  replies : List Reply
  notices : NoticeSet
  mask : NoticeSet
deriving DecidableEq, Repr

/-- An entry of the Request Queue (R167). -/
structure Entry where
  port : Port
  tag : Byte
  kind : Byte
  body : List Byte
deriving DecidableEq, Repr

/-- The notice kinds (R172). -/
inductive Notice where
  | meshLanded (h : Head)
  | claimLapsed (h : Head)
  | headChanged (h : Head)
  | seamSettled (s : Slot)
  | sourceChanged
  | saveFinished
  | started
deriving DecidableEq, Repr

/-! ## Stored Calibration Controller (12) -/

/-- What the part knows of one page of the flash area, 256 bytes, from the operations it issued itself: nothing,
that it is erased, or the bytes it was programmed with from its start, the rest of it being erased (R178, R184,
R185). -/
inductive FlashPage where
  | unknown
  | erased
  | programmed (bytes : List Byte)
deriving DecidableEq, Repr

/-- What the part knows of the flash area, page by page (R178). -/
structure Flash where
  pages : List FlashPage
deriving DecidableEq, Repr

/-- A flash operation of a save: the erase of a sector, the program of a page, a read (R179). -/
inductive FlashOp where
  | erase (sector : Nat)
  | program (page : Nat) (bytes : List Byte)
  | read
deriving DecidableEq, Repr

/-- The phase of the cold start (R179): what the controller waits for, or that the cold start has ended.
In the body phase it holds the body length and check of the header and the body bytes read so far. -/
inductive StartPhase where
  | probe
  | header
  | body (length : Nat) (check : BitVec 16) (got : List Byte)
  | ended
deriving DecidableEq, Repr

/-- The stored-image state (R182). -/
inductive StoredState where
  | none | valid | invalid
deriving DecidableEq, Repr

/-- The save state (R184), with the sector, the page or the bytes read back that a phase has reached. -/
inductive SaveState where
  | idle
  | erasing (sector : Nat)
  | writingBody (page : Nat)
  | writingHeader
  | verifying (readBack : List Byte)
  | ok
  | failedTimeout
  | failedVerify
  | aborted
deriving DecidableEq, Repr

end Sys2Proof.Machine
end

