-- ==== Sys2Proof/Machine/Defaults.lean ====
section
/-! DEFINITION. What the part forms by a formula: the mesh grid, the flat mesh, the fixed curves and the
default transfer tables. -/

namespace Sys2Proof.Machine

/-! ## The frame periods (1.1), in ticks of a third of a microsecond -/

/-- The frame period of a fixed rate. -/
def FixedRate.period : FixedRate → Nat
  | .f23976 => 125125 | .f24 => 125000 | .f25 => 120000 | .f2997 => 100100 | .f30 => 100000
  | .f48 => 62500 | .f50 => 60000 | .f5994 => 50050 | .f60 => 50000

/-- The presence period of a head in ticks; OFF has none (6.2). -/
def Period.ticks : Period → Option Nat
  | .off => none
  | .half => some 1500000
  | .one => some 3000000
  | .two => some 6000000
  | .four => some 12000000
  | .eight => some 24000000

/-! ## The mesh grid (R3) and the flat mesh (R21) -/

/-- Columns of the mesh grid: ceil((W - 1) / S) + 1. -/
def OutputSetup.columns (o : OutputSetup) : Nat := (o.w - 1 + (o.s - 1)) / o.s + 1

/-- Rows of the mesh grid: ceil((H - 1) / S) + 1. -/
def OutputSetup.rows (o : OutputSetup) : Nat := (o.h - 1 + (o.s - 1)) / o.s + 1

/-- Nodes of the mesh grid. -/
def OutputSetup.nodes (o : OutputSetup) : Nat := o.columns * o.rows

/-- A horizontal position held to its range (2.1). -/
def clampU (u : Int) : Int := max (-16384) (min u 81919)

/-- A vertical position held to its range (2.1). -/
def clampV (v : Int) : Int := max (-16384) (min v 53247)

/-- The flat-mesh node of column i and row j (R21). -/
def flatNode (o : OutputSetup) (t : Tile) (i j : Nat) : Node where
  u := clampU ((16 * t.x0 + (16 * i * o.s * (t.x1 + 1 - t.x0)) / o.w : Nat) : Int)
  v := clampV ((16 * t.y0 + (16 * j * o.s * (t.y1 + 1 - t.y0)) / o.h : Nat) : Int)
  visible := true

/-- The flat mesh of a tile, in ascending node index (R3, R21). -/
def flatMesh (o : OutputSetup) (t : Tile) : List Node :=
  (List.range o.nodes).map fun k => flatNode o t (k % o.columns) (k / o.columns)

/-! ## Curves (R62, R63) -/

/-- Curve 0, LINEAR. -/
def linearCurve : List Nat := (List.range 65).map fun k => 64 * k

/-- Curve 1, SMOOTH. -/
def smoothCurve : List Nat := (List.range 65).map fun k => (192 * k ^ 2 - 2 * k ^ 3 + 32) / 64

/-- Curve 2, COSINE: 2,048 (1 - cos(pi k / 64)) rounded to the nearest whole number.
DEDUCED: the 65 numbers were computed from the formula (log 20). -/
def cosineCurve : List Nat :=
  [0, 2, 10, 22, 39, 61, 88, 120, 156, 197, 242, 291, 345] ++
  [403, 465, 531, 600, 673, 749, 828, 910, 995, 1083, 1172, 1264, 1358] ++
  [1453, 1550, 1648, 1747, 1847, 1948, 2048, 2148, 2249, 2349, 2448, 2546, 2643] ++
  [2738, 2832, 2924, 3013, 3101, 3186, 3268, 3347, 3423, 3496, 3565, 3631, 3693] ++
  [3751, 3805, 3854, 3899, 3940, 3976, 4008, 4035, 4057, 4074, 4086, 4094, 4096]

/-- The loadable curves after a cold reset: copies of LINEAR (R62). -/
def Curves.cold : Curves := ⟨linearCurve, Quad.const linearCurve⟩

/-- Curve number n of the eight; the fixed ones are the same in every state (R62). -/
def Curves.curve (c : Curves) : Nat → List Nat
  | 0 => linearCurve
  | 1 => smoothCurve
  | 2 => cosineCurve
  | 3 => c.c3
  | 4 => c.c4to7.a0
  | 5 => c.c4to7.a1
  | 6 => c.c4to7.a2
  | 7 => c.c4to7.a3
  | _ => []

/-- The curves with loadable curve n replaced (R64). -/
def Curves.write (c : Curves) (n : Nat) (entries : List Nat) : Curves :=
  match n with
  | 3 => { c with c3 := entries }
  | 4 => { c with c4to7 := { c.c4to7 with a0 := entries } }
  | 5 => { c with c4to7 := { c.c4to7 with a1 := entries } }
  | 6 => { c with c4to7 := { c.c4to7 with a2 := entries } }
  | 7 => { c with c4to7 := { c.c4to7 with a3 := entries } }
  | _ => c

/-! ## Default transfer tables (R121) -/

/-- The whole square root, found bit by bit from bit b - 1 down. -/
def sqrtBits (n : Nat) : Nat → Nat → Nat
  | 0, r => r
  | b + 1, r => if (r + 2 ^ b) * (r + 2 ^ b) ≤ n then sqrtBits n b (r + 2 ^ b) else sqrtBits n b r

/-- The whole square root of a number below 2^26. -/
def wholeSqrt (n : Nat) : Nat := sqrtBits n 13 0

/-- The default decode table: D[k] = (k^2 65,535) div 65,536. -/
def defaultDecode : List Nat := (List.range 257).map fun k => (k ^ 2 * 65535) / 65536

/-- The default encode table: E[k] = min(4,095, the whole square root of 65,536 k). -/
def defaultEncode : List Nat := (List.range 257).map fun k => min 4095 (wholeSqrt (65536 * k))

/-- The tables after a cold reset (R120). -/
def Tables.cold : Tables := ⟨defaultDecode, Quad.const defaultEncode⟩

/-- The table a selector in 0..4 names (R120). -/
def Tables.table (t : Tables) : Nat → List Nat
  | 0 => t.decode
  | 1 => t.encode.a0
  | 2 => t.encode.a1
  | 3 => t.encode.a2
  | 4 => t.encode.a3
  | _ => []

/-- The tables with the table of a selector replaced. -/
def Tables.write (t : Tables) (sel : Nat) (entries : List Nat) : Tables :=
  match sel with
  | 0 => { t with decode := entries }
  | 1 => { t with encode := { t.encode with a0 := entries } }
  | 2 => { t with encode := { t.encode with a1 := entries } }
  | 3 => { t with encode := { t.encode with a2 := entries } }
  | 4 => { t with encode := { t.encode with a3 := entries } }
  | _ => t

/-- No entry is below the one before it (R120, R125). -/
def nonDecreasing : List Nat → Bool
  | x :: y :: rest => decide (x ≤ y) && nonDecreasing (y :: rest)
  | _ => true

/-! ## Cold-reset records -/

/-- The output setup record after a cold reset (R2). -/
def OutputSetup.cold : OutputSetup := ⟨3840, 2160, 64, .source, true⟩

/-- The full-canvas tile (1.6). -/
def Tile.canvas : Tile := ⟨0, 4095, 0, 2303⟩

/-- No lift on any channel. -/
def rgbZero : Rgb := ⟨0, 0, 0⟩

/-- A head record after a cold reset (1.6): only the enabled flag differs between heads. -/
def HeadRecord.cold (enabled : Bool) : HeadRecord :=
  ⟨enabled, .canvas, .d12, .live, rgbZero, rgbZero, false, .off⟩

/-- The flat mesh a head holds in both banks after a cold reset (R20), with no claim, no pending commit
and no lapse record (R24, R26, R30). -/
def HeadMesh.flat (o : OutputSetup) (t : Tile) : HeadMesh :=
  ⟨flatMesh o t, flatMesh o t, none, false, none⟩

/-- The Presence Monitor of one head right after a cold reset, its detect line examined (R84, R92). -/
def Monitor.cold (line : Bool) : Monitor :=
  ⟨.notWatched, .on, false, line, if line then some 0 else none, false⟩

/-- Source Input after a cold reset (R139). -/
def SourceInput.cold : SourceInput :=
  ⟨.noSignal, none, 0, none, 0, 120, none, none, none, false⟩

/-- The mask of all 19 kinds (R172). -/
def allKinds : NoticeSet := BitVec.allOnes 19

/-- A port after a cold reset (R160, R172). -/
def PortState.cold : PortState := ⟨.hunt, [], 0, allKinds⟩

end Sys2Proof.Machine
end

