-- ==== Sys2Proof/Machine/Operands.lean ====
section
/-! DEFINITION. The operand forms: the codes of R163 and of the chapters' own tables, the records that stand
in bodies (R162), and how each is read from a body and written into one. -/

namespace Sys2Proof.Machine

/-! ## Codes (R163) -/

/-- A byte as a yes-or-no value, none for a byte outside the list. -/
def bool? : Nat → Option Bool
  | 0 => some false
  | 1 => some true
  | _ => none

/-- Port, claim owner and lapse record codes. -/
def portCode : Port → Nat
  | .head k => k.toNat
  | .ap => 4

/-- A port or none: 255 stands for none. -/
def portCode? : Option Port → Nat
  | some p => portCode p
  | none => 255

/-- Head mode codes. -/
def HeadMode.code : HeadMode → Nat
  | .live => 0
  | .muted => 1
  | .pattern _ => 2

/-- Orientation codes. -/
def Orientation.code : Orientation → Nat
  | .vertical => 0
  | .horizontal => 1

/-- The orientation a code names. -/
def Orientation.ofCode? : Nat → Option Orientation
  | 0 => some .vertical
  | 1 => some .horizontal
  | _ => none

/-- Seam mode codes, also of a target and of the ends of a fade. -/
def SeamMode.code : SeamMode → Nat
  | .shared => 1
  | .soloFalling => 2
  | .soloRising => 3

/-- Pin codes. -/
def Pin.code : Pin → Nat
  | .auto => 0
  | .fixed m => m.code

/-- The pin a code names. -/
def Pin.ofCode? : Nat → Option Pin
  | 0 => some .auto
  | 1 => some (.fixed .shared)
  | 2 => some (.fixed .soloFalling)
  | 3 => some (.fixed .soloRising)
  | _ => none

/-- Light state codes. -/
def Light.code : Light → Nat
  | .on => 0
  | .blocked => 1
  | .standby => 2

/-- The light state a code names. -/
def Light.ofCode? : Nat → Option Light
  | 0 => some .on
  | 1 => some .blocked
  | 2 => some .standby
  | _ => none

/-- Presence state codes. -/
def Presence.code : Presence → Nat
  | .notWatched => 0
  | .absent => 1
  | .present _ => 2
  | .lost => 3

/-- Pacing codes. -/
def Pacing.code : Pacing → Nat
  | .fixed => 0
  | .following => 1
  | .freeRunning => 2

/-- Input state codes. -/
def InputState.code : InputState → Nat
  | .noSignal => 0
  | .acquiring => 1
  | .locked => 2
  | .holding => 3
  | .black => 4
  | .unsupported => 5

/-- Buffer state codes. -/
def Buffer.code : Buffer → Nat
  | .free => 0
  | .filling _ => 1
  | .ready _ => 2
  | .shown _ => 3

/-- Save state codes. -/
def SaveState.code : SaveState → Nat
  | .idle => 0
  | .erasing _ => 1
  | .writingBody _ => 2
  | .writingHeader => 3
  | .verifying _ => 4
  | .ok => 5
  | .failedTimeout => 6
  | .failedVerify => 7
  | .aborted => 8

/-- Stored-image state codes. -/
def StoredState.code : StoredState → Nat
  | .none => 0
  | .valid => 1
  | .invalid => 2

/-- Rate codes (1.1). -/
def Rate.code : Rate → Nat
  | .source => 0
  | .fixed .f23976 => 1
  | .fixed .f24 => 2
  | .fixed .f25 => 3
  | .fixed .f2997 => 4
  | .fixed .f30 => 5
  | .fixed .f48 => 6
  | .fixed .f50 => 7
  | .fixed .f5994 => 8
  | .fixed .f60 => 9

/-- The rate a code names (1.1). -/
def Rate.ofCode? : Nat → Option Rate
  | 0 => some .source
  | 1 => some (.fixed .f23976)
  | 2 => some (.fixed .f24)
  | 3 => some (.fixed .f25)
  | 4 => some (.fixed .f2997)
  | 5 => some (.fixed .f30)
  | 6 => some (.fixed .f48)
  | 7 => some (.fixed .f50)
  | 8 => some (.fixed .f5994)
  | 9 => some (.fixed .f60)
  | _ => none

/-- A depth travels as the number of its bits (R163). -/
def depthBits : Depth → Nat
  | .d8 => 8
  | .d10 => 10
  | .d12 => 12

/-- The depth of a number of bits. -/
def depth? : Nat → Option Depth
  | 8 => some .d8
  | 10 => some .d10
  | 12 => some .d12
  | _ => none

/-- Presence period codes (6.2). -/
def Period.code : Period → Nat
  | .off => 0
  | .half => 1
  | .one => 2
  | .two => 3
  | .four => 4
  | .eight => 5

/-- The presence period a code names (6.2). -/
def Period.ofCode? : Nat → Option Period
  | 0 => some .off
  | 1 => some .half
  | 2 => some .one
  | 3 => some .two
  | 4 => some .four
  | 5 => some .eight
  | _ => none

/-- The values of the reply statuses (R170). -/
def Status.code : Status → Byte
  | .done => 0x00
  | .adjusted => 0x01
  | .partialDone => 0x02
  | .wait => 0x10
  | .busy => 0x11
  | .denied => 0x12
  | .invalid => 0x13
  | .conflict => 0x14
  | .lapsed => 0x15
  | .checkfail => 0x16
  | .unknown => 0x17
  | .aborted => 0x18
  | .malformed => 0x19

/-- Whether a status says that the request was carried out (R170). -/
def Status.carried : Status → Bool
  | .done | .adjusted | .partialDone => true
  | .wait | .busy | .denied | .invalid | .conflict | .lapsed | .checkfail | .unknown | .aborted
  | .malformed => false

/-! ## Records in bodies (R162, R163) -/

/-- A mesh node: u and v as signed 3-byte numbers, then the flags byte. -/
def nodeBytes (n : Node) : List Byte := be3s n.u ++ be3s n.v ++ beBool n.visible

/-- The node at a place of a body, as sent: the lowest bit of the flags byte is the visible flag. -/
def nodeAt (l : List Byte) (i : Nat) : Node := ⟨s24 l i, s24 l (i + 3), u8 l (i + 6) % 2 == 1⟩

/-- The run of nodes of a body from a place on. -/
def nodesAt (l : List Byte) (i count : Nat) : List Node :=
  (List.range count).map fun k => nodeAt l (i + 7 * k)

/-- The run of two-byte entries of a body from a place on. -/
def entriesAt (l : List Byte) (i count : Nat) : List Nat :=
  (List.range count).map fun k => u16 l (i + 2 * k)

/-- Three two-byte numbers, for R, G and B. -/
def rgbBytes (c : Rgb) : List Byte := be2 c.r ++ be2 c.g ++ be2 c.b

/-- Three two-byte numbers at a place. -/
def rgbAt (l : List Byte) (i : Nat) : Rgb := ⟨u16 l i, u16 l (i + 2), u16 l (i + 4)⟩

/-- A function on each channel. -/
def rgbMap (f : Nat → Nat) (c : Rgb) : Rgb := ⟨f c.r, f c.g, f c.b⟩

/-- A tile as four two-byte numbers: x0, x1, y0, y1. -/
def tileBytes (t : Tile) : List Byte := be2 t.x0 ++ be2 t.x1 ++ be2 t.y0 ++ be2 t.y1

/-- The tile at a place. -/
def tileAt (l : List Byte) (i : Nat) : Tile := ⟨u16 l i, u16 l (i + 2), u16 l (i + 4), u16 l (i + 6)⟩

/-- A width or a height as a two-byte number; above 65,535 a free value (log 36). -/
def lengthBytes (n : Nat) : List Byte := if n < 65536 then be2 n else be2 (Config.wideSize n).toNat

/-- A size as two two-byte numbers; a size the part does not hold is sent as 0 (R164). -/
def sizeBytes (z : Option Size) : List Byte :=
  match z with
  | some z => lengthBytes z.w ++ lengthBytes z.h
  | none => be2 0 ++ be2 0

/-- A list of two-byte entries. -/
def entryBytes (l : List Nat) : List Byte := l.flatMap be2

/-- The tile bounds of R14. -/
def Tile.ok (t : Tile) : Bool :=
  decide (t.x0 + 256 ≤ t.x1 + 1 ∧ t.y0 + 256 ≤ t.y1 + 1 ∧ t.x1 ≤ 4095 ∧ t.y1 ≤ 2303)

/-- The ranges of a node record (2.1). -/
def Node.ok (n : Node) : Bool :=
  decide (-16384 ≤ n.u ∧ n.u ≤ 81919 ∧ -16384 ≤ n.v ∧ n.v ≤ 53247)

/-- A node with its coordinates clamped to their ranges. -/
def Node.clamp (n : Node) : Node := { n with u := clampU n.u, v := clampV n.v }

/-! ## Pattern records (R129) -/

/-- A pattern record on the wire: kind, codes R, G, B, level, spacing; unused fields are 0. -/
structure PatternFields where
  kind : Nat
  codes : Rgb
  level : Nat
  spacing : Nat
deriving DecidableEq, Repr

/-- The wire fields of a pattern record. -/
def Pattern.fields : Pattern → PatternFields
  | .rawFlat c => ⟨0, c, 0, 0⟩
  | .rawGrid l => ⟨1, rgbZero, l, 0⟩
  | .rawDots l => ⟨2, rgbZero, l, 0⟩
  | .canvasGrid sp l => ⟨3, rgbZero, l, sp⟩
  | .weightView => ⟨4, rgbZero, 0, 0⟩

/-- The pattern record of a kind from fields that are kept as they stand; none for an unknown kind. -/
def PatternFields.pattern? (f : PatternFields) : Option Pattern :=
  match f.kind with
  | 0 => some (.rawFlat f.codes)
  | 1 => some (.rawGrid f.level)
  | 2 => some (.rawDots f.level)
  | 3 => some (.canvasGrid f.spacing f.level)
  | 4 => some .weightView
  | _ => none

/-- A pattern record with the fields its kind uses clamped (R129). -/
def Pattern.clamp : Pattern → Pattern
  | .rawFlat c => .rawFlat (rgbMap (min 4095) c)
  | .rawGrid l => .rawGrid (min 4095 l)
  | .rawDots l => .rawDots (min 4095 l)
  | .canvasGrid sp l => .canvasGrid (max 16 (min sp 512)) (min 4095 l)
  | .weightView => .weightView

/-- Wire fields as 11 bytes. -/
def patternBytes (f : PatternFields) : List Byte :=
  be1 f.kind ++ rgbBytes f.codes ++ be2 f.level ++ be2 f.spacing

/-- Wire fields at a place. -/
def patternAt (l : List Byte) (i : Nat) : PatternFields :=
  ⟨u8 l i, rgbAt l (i + 1), u16 l (i + 7), u16 l (i + 9)⟩

/-- The pattern fields of a head mode: kind 255 and zeros with no pattern record (R164). -/
def HeadMode.fields : HeadMode → PatternFields
  | .pattern p => p.fields
  | .live => ⟨255, rgbZero, 0, 0⟩
  | .muted => ⟨255, rgbZero, 0, 0⟩

/-! ## Output setup records (R2) -/

/-- The output setup record as the body of OUTPUT_SETUP. -/
def setupBytes (o : OutputSetup) : List Byte :=
  be2 o.w ++ be2 o.h ++ be1 o.s ++ be1 o.rate.code ++ beBool o.autoStart

/-- The output setup record at the start of a body, if it passes the range checks of R11. -/
def setup? (l : List Byte) : Option OutputSetup :=
  if 640 ≤ u16 l 0 ∧ u16 l 0 ≤ 4096 ∧ 360 ≤ u16 l 2 ∧ u16 l 2 ≤ 2304 ∧ (u8 l 4 = 64 ∨ u8 l 4 = 128) then
    match Rate.ofCode? (u8 l 5), bool? (u8 l 6) with
    | some r, some a => some ⟨u16 l 0, u16 l 2, u8 l 4, r, a⟩
    | _, _ => none
  else none

/-! ## Seam records (R57) -/

/-- A seam's geometry and pin as SEAM_DEFINE carries them: orientation, falling head, rising head, a, b,
curve, pin. Heads and curve are numbers as sent. -/
structure SeamFields where
  orientation : Nat
  falling : Nat
  rising : Nat
  a : Nat
  b : Nat
  curve : Nat
  pin : Nat
deriving DecidableEq, Repr

/-- Seam fields at a place. -/
def seamAt (l : List Byte) (i : Nat) : SeamFields :=
  ⟨u8 l i, u8 l (i + 1), u8 l (i + 2), u16 l (i + 3), u16 l (i + 5), u8 l (i + 7), u8 l (i + 8)⟩

/-- The geometry and the pin of seam fields that pass steps 2 and 3 of R57. -/
def SeamFields.check (f : SeamFields) : Option (SeamGeometry × Pin) :=
  match Orientation.ofCode? f.orientation, Pin.ofCode? f.pin, Idx4.ofNat? f.falling, Idx4.ofNat? f.rising with
  | some o, some p, some x, some y =>
    if x ≠ y ∧ f.curve ≤ 7 ∧ f.a + 16 ≤ f.b ∧ f.b ≤ f.a + 1024 then some (⟨o, x, y, f.a, f.b, f.curve⟩, p) else none
  | _, _, _, _ => none

/-- The band of a seam lies inside a tile along the seam's axis (R57 step 4, R16). -/
def SeamGeometry.inTile (g : SeamGeometry) (t : Tile) : Bool :=
  match g.orientation with
  | .vertical => decide (t.x0 ≤ g.a ∧ g.b ≤ t.x1)
  | .horizontal => decide (t.y0 ≤ g.a ∧ g.b ≤ t.y1)

/-- Two seams of one orientation that share a head have overlapping bands (R57 step 5). -/
def SeamGeometry.clashes (g k : SeamGeometry) : Bool :=
  decide (g.orientation = k.orientation) &&
  (k.falling == g.falling || k.falling == g.rising || k.rising == g.falling || k.rising == g.rising) &&
  decide (g.a ≤ k.b ∧ k.a ≤ g.b)

/-- The band lies inside the tiles of both its heads (R57 step 4). -/
def SeamGeometry.inTiles (g : SeamGeometry) (tile : Head → Tile) : Bool :=
  g.inTile (tile g.falling) && g.inTile (tile g.rising)

/-- No seam of another slot clashes with a seam of slot sl (R57 step 5). -/
def freeOfClash (sl : Slot) (g : SeamGeometry) (others : Slot → Option SeamGeometry) : Bool :=
  Idx4.all.all fun k => k == sl || (match others k with
    | none => true
    | some q => !g.clashes q)

end Sys2Proof.Machine
end

