-- ==== Sys2Proof/Machine/Flash.lean ====
section
/-! DEFINITION. The flash area as the part's own operations leave it (R178, R179, R184, R185, log 37): erasing,
programming, and what a read returns. -/

namespace Sys2Proof.Machine

/-- The flash as the part finds it: nothing is known of any page. -/
def Flash.asFound : Flash := ⟨List.replicate Config.flashPages .unknown⟩

/-- What is known of a page. -/
def Flash.page (f : Flash) (n : Nat) : FlashPage := f.pages.getD n .unknown

/-- A page is written. -/
def Flash.setPage (f : Flash) (n : Nat) (x : FlashPage) : Flash := ⟨f.pages.set n x⟩

/-- The pages from `i` on, those of a sector erased; a sector has 16 pages (R178). -/
def erasePages (sector : Nat) : Nat → List FlashPage → List FlashPage
  | _, [] => []
  | i, x :: rest => (if i / 16 = sector then .erased else x) :: erasePages sector (i + 1) rest

/-- A sector is erased. -/
def Flash.eraseSector (f : Flash) (sector : Nat) : Flash := ⟨erasePages sector 0 f.pages⟩

/-- An operation is issued. From the first erase the flash holds no marker (R184), so an erase acts as it is
issued; a page being programmed holds nothing that is known until the operation ends (R185). -/
def Flash.begin (f : Flash) : FlashOp → Flash
  | .erase k => f.eraseSector k
  | .program n _ => f.setPage n .unknown
  | .read => f

/-- An operation ends. -/
def Flash.finish (f : Flash) : FlashOp → Flash
  | .erase _ => f
  | .program n l => f.setPage n (.programmed l)
  | .read => f

/-- What a read returns for the byte at a place of a page that the read's event brings as b: an erased byte reads
0xFF (R178), a programmed one as it was programmed unless the flash has failed (R185), any other as brought. -/
def FlashPage.byte (failed : Bool) (x : FlashPage) (i : Nat) (b : Byte) : Byte :=
  match x with
  | .unknown => b
  | .erased => 0xFF
  | .programmed l =>
    match l[i]? with
    | some c => if failed then b else c
    | none => 0xFF

/-- What a read of the flash from an offset on returns, its event bringing the bytes of the list. -/
def Flash.answer (f : Flash) (failed : Bool) : Nat → List Byte → List Byte
  | _, [] => []
  | i, b :: rest => (f.page (i / 256)).byte failed (i % 256) b :: f.answer failed (i + 1) rest

end Sys2Proof.Machine
end

