-- ==== Sys2Proof/Machine/State.lean ====
section
/-! DEFINITION. The state of the part, the ways a step can stop, and the state right after reset. -/

namespace Sys2Proof.Machine

/-- The ways a command could end in a fault. The part has none: a request that cannot be carried out is
answered with a refusing status (R170), a cold start that fails ends in fail-safe (R182), a save that
fails ends with an outcome (R184). So this type has no constructor. -/
inductive Fault
deriving DecidableEq, Repr

/-- The ways a command could be refused. -/
inductive Refusal where
  /-- Raised by exec alone, for a command that has no meaning yet. Safe: nothing is claimed of it. No arm
  raises it now. -/
  | notModelled (mnemonic : String)
deriving DecidableEq, Repr

/-- Everything the spec gives the part (INVENTORY.md, State), what it knows of the flash it works, and the queue
of waiting commands. -/
structure State where
  setup : OutputSetup
  timing : Timing
  measured : Option Nat
  heads : Quad HeadRecord
  monitor : Quad Monitor
  mesh : Quad HeadMesh
  seams : Quad (Option Seam)
  published : Option (Quad (Option SeamLook))
  curves : Curves
  live : Tables
  staged : Tables
  views : Quad (Option FrameView)
  source : SourceInput
  buffers : Buffers
  dropped : Nat
  repeated : Nat
  broken : Nat
  baud : BaudRate
  ports : PerPort PortState
  queue : List Entry
  inHand : Option Entry
  startCode : Byte
  startPhase : StartPhase
  stored : StoredState
  save : SaveState
  image : List Byte
  abortedOp : Option FlashOp
  flashTimer : Option Nat
  flash : Flash
  pending : List Instr
deriving DecidableEq, Repr

/-- Every block at its cold-reset value (00, Resets; R179), with the rate straps read, the detect lines
examined at the levels they stand at (R92), and the probe's identify just issued. No seam view is published:
DESIGN CHOICE (log 23). What is known of the flash passes through, since a reset does not write it (R185), and
so does the queue of commands, which is the model's own. -/
def State.cold (straps : BaudRate) (lines : Quad Bool) (flash : Flash) (pending : List Instr) : State where
  setup := .cold
  timing := .stopped
  measured := none
  heads := ⟨.cold true, .cold false, .cold false, .cold false⟩
  monitor := lines.map .cold
  mesh := Quad.const (.flat .cold .canvas)
  seams := Quad.const none
  published := none
  curves := .cold
  live := .cold
  staged := .cold
  views := Quad.const none
  source := .cold
  buffers := ⟨.free, .free, .free⟩
  dropped := 0
  repeated := 0
  broken := 0
  baud := straps
  ports := .const .cold
  queue := []
  inHand := none
  startCode := 0x01
  startPhase := .probe
  stored := .none
  save := .idle
  image := []
  abortedOp := none
  flashTimer := some 0
  flash := flash
  pending := pending

/-- The part right after reset. DESIGN CHOICE: straps at code 0 (log 14), detect lines released (log 13). Nothing
is known of the flash. -/
def State.reset : State := .cold .b115200 (Quad.const false) .asFound []

end Sys2Proof.Machine
end

