-- ==== Sys2Proof/Machine/Flags.lean ====
section
/-! DEFINITION. The notice sets, the masks and the attention lines (11.5): the part's flags. -/

namespace Sys2Proof.Machine

/-- The number of a notice kind (R172). -/
def Notice.number : Notice → Nat
  | .meshLanded h => h.toNat
  | .claimLapsed h => 4 + h.toNat
  | .headChanged h => 8 + h.toNat
  | .seamSettled s => 12 + s.toNat
  | .sourceChanged => 16
  | .saveFinished => 17
  | .started => 18

/-- The set that holds one notice kind alone. -/
def Notice.bit (n : Notice) : NoticeSet := 1#19 <<< n.number

/-- A port whose notice set also holds a kind. -/
def PortState.raise (n : Notice) (q : PortState) : PortState := { q with notices := q.notices ||| n.bit }

/-- A notice is raised: its kind is added to all five notice sets (R172). -/
def State.raise (n : Notice) (s : State) : State := { s with ports := s.ports.map (·.raise n) }

/-- The attention line of a port: active while its set holds a kind its mask also holds (R173). -/
def PortState.attention (q : PortState) : Bool := (q.notices &&& q.mask) != 0

/-- The attention line of port p (R173). -/
def State.attention (s : State) (p : Port) : Bool := (s.ports.get p).attention

/-- A port's notice set and mask in the 3-byte form of 11.2: bits 19 to 23 are 0. -/
def noticeBytes (n : NoticeSet) : List Byte := be3 n.toNat

/-- Every notice set after a warm restart: STARTED alone, with SAVE_FINISHED where the restart aborted a
save (R177, step 3). -/
def restartNotices (savedAborted : Bool) : NoticeSet :=
  if savedAborted then Notice.started.bit ||| Notice.saveFinished.bit else Notice.started.bit

end Sys2Proof.Machine
end

