-- ==== Sys2Proof/Machine/Ops.lean ====
section
/-! DEFINITION. The operations several commands share: time, contribution and seams, claims and commits,
buffers, the output frame start and the stop. -/

namespace Sys2Proof.Machine

/-- An operation once for each index, in ascending order. -/
def forEach (f : Idx4 → State → State) (s : State) : State := f .i3 (f .i2 (f .i1 (f .i0 s)))

/-! ## What state the part is in -/

/-- Whether the timing state is RUNNING (R4). -/
def State.running (s : State) : Bool :=
  match s.timing with
  | .stopped => false
  | .running .. => true

/-- Whether a save state is one of the four phases (R184). -/
def SaveState.inFlight : SaveState → Bool
  | .erasing _ | .writingBody _ | .writingHeader | .verifying _ => true
  | .idle | .ok | .failedTimeout | .failedVerify | .aborted => false

/-- Whether a save is in flight (R183). -/
def State.saving (s : State) : Bool := s.save.inFlight

/-- The flash operation a save works at in a phase: the erase of a sector, the program of a page of the body or of
the header, or a read of the read-back (R184). -/
def SaveState.op (image : List Byte) : SaveState → Option FlashOp
  | .erasing k => some (.erase k)
  | .writingBody k => some (.program (k + 1) ((image.drop (256 * (k + 1))).take 256))
  | .writingHeader => some (.program 0 (image.take 256))
  | .verifying _ => some .read
  | .idle | .ok | .failedTimeout | .failedVerify | .aborted => none

/-- The flash operation under way for saves: one left by an aborted save, behind which a new save waits, or the
save's own (R184, R185). -/
def State.flashOp (s : State) : Option FlashOp := s.abortedOp.or (s.save.op s.image)

/-- Whether the cold start has ended (R179). -/
def State.started (s : State) : Bool := s.startPhase == .ended

/-- The measured source period, or 1/60 s where there is none (R6). -/
def State.measuredPeriod (s : State) : Nat := s.measured.getD Config.minPeriod

/-! ## Time (log 1, log 2) -/

/-- Time passes for Output Timing. -/
def Timing.elapse (n : Nat) : Timing → Timing
  | .stopped => .stopped
  | .running p sp e => .running p sp (e + n)

/-- Time passes for a presence state: the timer runs in PRESENT (R84). -/
def Presence.elapse (n : Nat) : Presence → Presence
  | .present t => .present (t + n)
  | .notWatched => .notWatched
  | .absent => .absent
  | .lost => .lost

/-- Time passes for the monitor of a head. -/
def Monitor.elapse (n : Nat) (m : Monitor) : Monitor :=
  { m with presence := m.presence.elapse n, debounce := m.debounce.map (· + n) }

/-- Time passes for the mesh state of a head: the lapse timer stands while a commit is pending (R24). -/
def HeadMesh.elapse (n : Nat) (m : HeadMesh) : HeadMesh :=
  if m.commitPending then m
  else { m with claim := m.claim.map fun c => { c with timer := c.timer + n } }

/-- Whether a receive assembler examines the next byte as in HUNT: it hunts, or more than 20 ms have passed since
the last byte of its packet (R161). -/
def Assembler.hunting : Assembler → Bool
  | .hunt => true
  | .packet _ gap => decide (Config.gapTicks ≤ gap)

/-- Time passes for a receive assembler: inside a packet the gap since the last byte grows (R161). -/
def Assembler.elapse (n : Nat) : Assembler → Assembler
  | .hunt => .hunt
  | .packet taken gap => .packet taken (gap + n)

/-- Time passes for a port. -/
def PortState.elapse (n : Nat) (q : PortState) : PortState := { q with assembler := q.assembler.elapse n }

/-- n ticks pass: every timer that runs has run n ticks longer. Nothing else changes. -/
def State.elapse (n : Nat) (s : State) : State :=
  { s with
    timing := s.timing.elapse n
    monitor := s.monitor.map (·.elapse n)
    mesh := s.mesh.map (·.elapse n)
    source := { s.source with lossTimer := s.source.lossTimer.map (· + n) }
    ports := s.ports.map (·.elapse n)
    flashTimer := s.flashTimer.map (· + n) }

/-- Time passes to the moment at which a timer that has run t ticks is due at a limit (log 2). -/
def State.elapseTo (limit t : Nat) (s : State) : State := s.elapse (limit - t)

/-! ## Seams: factors of state, targets and fades (05) -/

/-- A seam settled at a mode. -/
def Seam.settleAt (q : Seam) (m : SeamMode) : Seam := { q with mode := m, target := m, fade := none }

/-- The target a pin and the contributions of the falling and the rising head give; the last argument is
the target kept where neither contributes (R71). -/
def Pin.target (pin : Pin) (falling rising : Bool) (kept : SeamMode) : SeamMode :=
  match pin, falling, rising with
  | .fixed m, _, _ => m
  | .auto, true, true => .shared
  | .auto, true, false => .soloFalling
  | .auto, false, true => .soloRising
  | .auto, false, false => kept

/-- The length of a fade toward a mode (R75): N_in toward SHARED, N_out toward a solo mode. -/
def Seam.fadeLength (q : Seam) (dst : SeamMode) : Nat := if dst = .shared then q.nIn else q.nOut

/-- A settled seam starts a fade toward a new target, or settles there at once if the length is 0; the
flag says that it settled (R75). -/
def Seam.startFade (q : Seam) (dst : SeamMode) : Seam × Bool :=
  if q.fadeLength dst = 0 then (q.settleAt dst, true)
  else ({ q with target := dst, fade := some ⟨q.mode, dst, 0, q.fadeLength dst⟩ }, false)

/-- The effect of a re-derivation that gives target t; the flag says that SEAM_SETTLED is set
(R71, R75, R76, R79). DESIGN CHOICE (log 38): RUNNING decides, also between an OUTPUT_START with pacing FOLLOWING and
the first output frame start, where R78 has every seam settled in the first view. -/
def Seam.retarget (q : Seam) (running : Bool) (t : SeamMode) : Seam × Bool :=
  if t = q.target then (q, false)
  else if !running then (q.settleAt t, true)
  else
    match q.fade with
    | none => q.startFade t
    | some f =>
      if t = f.src then
        if f.k = 0 then (q.settleAt t, true)
        else ({ q with mode := f.dst, target := t, fade := some ⟨f.dst, f.src, f.n - f.k, f.n⟩ }, false)
      else (q.settleAt f.dst).startFade t

/-- One output frame start for a seam: a fade's k rises by 1 and settles at N; the flag says that it
settled (R77). -/
def Seam.advance (q : Seam) : Seam × Bool :=
  match q.fade with
  | none => (q, false)
  | some f =>
    if f.k + 1 = f.n then (q.settleAt f.dst, true)
    else ({ q with fade := some { f with k := f.k + 1 } }, false)

/-- A fading seam settles at its to mode; the flag says that it was fading (R79, R81). -/
def Seam.endFade (q : Seam) : Seam × Bool :=
  match q.fade with
  | none => (q, false)
  | some f => (q.settleAt f.dst, true)

/-- Whether a seam names a head as its falling or its rising head. -/
def SeamGeometry.names (g : SeamGeometry) (h : Head) : Bool := g.falling == h || g.rising == h

/-- The contribution of a head as the Presence Monitor holds it. -/
def State.contributes (s : State) (h : Head) : Bool := (s.monitor.get h).contributes

/-- A seam is put back in its slot, and SEAM_SETTLED is raised if it settled (R80). -/
def State.putSeam (s : State) (sl : Slot) (r : Seam × Bool) : State :=
  let s' := { s with seams := s.seams.set sl (some r.1) }
  if r.2 then s'.raise (.seamSettled sl) else s'

/-- The target of the seam in a slot is re-derived and acted on (R71, R75, R76, R79). -/
def State.retargetSlot (sl : Slot) (s : State) : State :=
  match s.seams.get sl with
  | none => s
  | some q =>
    s.putSeam sl (q.retarget s.running
      (q.pin.target (s.contributes q.geo.falling) (s.contributes q.geo.rising) q.target))

/-- The seam in a slot is retargeted if it names a head (R72). -/
def State.retargetNamed (h : Head) (sl : Slot) (s : State) : State :=
  match s.seams.get sl with
  | none => s
  | some q => if q.geo.names h then s.retargetSlot sl else s

/-- Every defined seam that names a head is retargeted (R72). -/
def State.retargetHead (h : Head) (s : State) : State := forEach (State.retargetNamed h) s

/-- A seam being placed: settled at the target derived now, SHARED where its pin is AUTO and neither
head contributes (R59). -/
def Seam.place (geo : SeamGeometry) (pin : Pin) (nOut nIn : Nat) (falling rising : Bool) : Seam :=
  let t := pin.target falling rising .shared
  ⟨geo, pin, nOut, nIn, t, t, none⟩

/-- A seam is placed in a slot as SEAM_DEFINE places one (R59). -/
def State.placeSeam (sl : Slot) (geo : SeamGeometry) (pin : Pin) (nOut nIn : Nat) (s : State) : State :=
  let q := Seam.place geo pin nOut nIn (s.contributes geo.falling) (s.contributes geo.rising)
  { s with seams := s.seams.set sl (some q) }

/-- The seam in a slot goes through one step of its fade at a frame start (R77). -/
def State.advanceFade (sl : Slot) (s : State) : State :=
  match s.seams.get sl with
  | none => s
  | some q => s.putSeam sl q.advance

/-- The seam in a slot settles at the move to STOPPED (R79). -/
def State.endFade (sl : Slot) (s : State) : State :=
  match s.seams.get sl with
  | none => s
  | some q => s.putSeam sl q.endFade

/-! ## Contribution (R93, R94) -/

/-- A head contributes when it is enabled, its sink is DETECTED, its presence is NOT_WATCHED or PRESENT
and its light is LIGHT_ON (R93). -/
def contribution (enabled : Bool) (m : Monitor) : Bool :=
  enabled && m.sink && (match m.presence with
    | .notWatched | .present _ => true
    | .absent | .lost => false) && m.light == .on

/-- The contribution of a head is re-derived: a change is written, HEAD_CHANGED is raised and the seams
naming the head retarget, as one event (R94). -/
def State.rederive (h : Head) (s : State) : State :=
  let m := s.monitor.get h
  let c := contribution (s.heads.get h).enabled m
  if c = m.contributes then s
  else
    (({ s with monitor := s.monitor.set h { m with contributes := c } }).raise (.headChanged h)).retargetHead h

/-- A head's presence state is written and its contribution re-derived (R93). -/
def State.setPresence (h : Head) (x : Presence) (s : State) : State :=
  ({ s with monitor := s.monitor.set h { s.monitor.get h with presence := x } }).rederive h

/-- A well-formed packet from head port Hk acts on head k's presence (R85). -/
def State.hear (k : Head) (s : State) : State :=
  match (s.monitor.get k).presence with
  | .notWatched => s
  | .present _ => { s with monitor := s.monitor.set k { s.monitor.get k with presence := .present 0 } }
  | .absent | .lost => s.setPresence k (.present 0)

/-! ## Claims and commits (02) -/

/-- The mesh state of a head with the work staged on it thrown away: STAGED becomes a copy of ACTIVE and
the claim is released. -/
def HeadMesh.revert (m : HeadMesh) : HeadMesh := { m with staged := m.active, claim := none }

/-- The lapse timer of a claim a port owns restarts from zero, unless a commit is pending (R24). -/
def HeadMesh.restartTimer (p : Port) (m : HeadMesh) : HeadMesh :=
  match m.claim with
  | some c => if c.owner = p ∧ m.commitPending = false then { m with claim := some ⟨p, 0⟩ } else m
  | none => m

/-- The lapse timers of every claim a port owns restart (R24, R165). -/
def State.restartClaims (p : Port) (s : State) : State :=
  { s with mesh := s.mesh.map (·.restartTimer p) }

/-- The claim on a head is taken by a port if none is held, which also clears the lapse record
(R23 step 6, R24, R26). -/
def HeadMesh.takeClaim (p : Port) (m : HeadMesh) : HeadMesh :=
  match m.claim with
  | some _ => m
  | none => { m with claim := some ⟨p, 0⟩, lapse := none }

/-- A claim held by a port is lost: STAGED reverts, the claim is released, the lapse record names the
owner and CLAIM_LAPSED is raised (R25, R35). -/
def State.loseClaim (h : Head) (owner : Port) (s : State) : State :=
  ({ s with mesh := s.mesh.set h { (s.mesh.get h).revert with lapse := some owner } }).raise (.claimLapsed h)

/-- A pending commit on a head lands (R31). -/
def State.land (h : Head) (s : State) : State :=
  let m := s.mesh.get h
  if m.commitPending then
    ({ s with mesh := s.mesh.set h { m with active := m.staged, claim := none, commitPending := false } }).raise
      (.meshLanded h)
  else s

/-- Every pending commit lands, unless a save is in flight (R31, R33). -/
def State.landAll (s : State) : State := if s.saving then s else forEach State.land s

/-- A commit is made pending on a head; while STOPPED with no save in flight it lands at once
(R29, R32). -/
def State.commit (h : Head) (s : State) : State :=
  let s' := { s with mesh := s.mesh.set h { s.mesh.get h with commitPending := true } }
  if s.running || s.saving then s' else s'.land h

/-! ## Source Input and Frame Buffers (09) -/

/-- The input state is written; a change raises SOURCE_CHANGED (R139). -/
def State.setInput (x : InputState) (s : State) : State :=
  if s.source.state = x then s
  else ({ s with source := { s.source with state := x } }).raise .sourceChanged

/-- A counter that stays at 65,535 once it has reached it (R148). -/
def bump (n : Nat) : Nat := if n < 65535 then n + 1 else 65535

/-- Every buffer through a function. -/
def Buffers.map (f : Buffer → Buffer) (b : Buffers) : Buffers := ⟨f b.b0, f b.b1, f b.b2⟩

/-- Whether some buffer satisfies a test. -/
def Buffers.any (f : Buffer → Bool) (b : Buffers) : Bool := f b.b0 || f b.b1 || f b.b2

/-- A buffer is FILLING. -/
def Buffer.isFilling : Buffer → Bool
  | .filling _ => true
  | _ => false

/-- A buffer is READY. -/
def Buffer.isReady : Buffer → Bool
  | .ready _ => true
  | _ => false

/-- A FILLING buffer becomes FREE. -/
def Buffer.cut : Buffer → Buffer
  | .filling _ => .free
  | b => b

/-- A FILLING buffer becomes READY with its frame, and a READY one it replaces becomes FREE (R146). -/
def Buffer.finish (f : SourceFrame) : Buffer → Buffer
  | .filling _ => .ready f
  | .ready _ => .free
  | b => b

/-- A READY and a SHOWN buffer become FREE (R147). -/
def Buffer.clear : Buffer → Buffer
  | .ready _ => .free
  | .shown _ => .free
  | b => b

/-- The READY buffer becomes SHOWN and the SHOWN one becomes FREE (R147). -/
def Buffer.promote : Buffer → Buffer
  | .ready f => .shown f
  | .shown _ => .free
  | b => b

/-- The lowest-numbered FREE buffer becomes FILLING, with the width of the frame it receives (R145, R146). -/
def Buffers.fill (b : Buffers) (width : Nat) : Buffers :=
  if b.b0 = .free then { b with b0 := .filling width }
  else if b.b1 = .free then { b with b1 := .filling width }
  else if b.b2 = .free then { b with b2 := .filling width }
  else b

/-- The frame of a SHOWN buffer. -/
def Buffer.shown? : Buffer → Option SourceFrame
  | .shown f => some f
  | _ => none

/-- The frame of the buffer that is SHOWN, if any. -/
def Buffers.shownFrame (b : Buffers) : Option SourceFrame := (b.b0.shown?.or b.b1.shown?).or b.b2.shown?

/-- A frame that was cut: its FILLING buffer becomes FREE and the broken counter rises (R146, R148). -/
def State.cutFrame (s : State) : State :=
  if s.buffers.any Buffer.isFilling then
    { s with buffers := s.buffers.map Buffer.cut, broken := bump s.broken }
  else s

/-- The hold count advances at an output frame start, and may turn the input state to BLACK (R143). -/
def State.advanceHold (s : State) : State :=
  if s.source.state = .holding then
    let n := s.source.holdCount + 1
    let s' := { s with source := { s.source with holdCount := n } }
    if s.source.holdTime < n then s'.setInput .black else s'
  else s

/-- The input states in which every sample is 0 (R108, R147). -/
def InputState.dark : InputState → Bool
  | .noSignal | .unsupported | .black => true
  | .acquiring | .locked | .holding => false

/-- The Frame Buffers choose the buffer for the frame view (R147). -/
def State.chooseBuffer (s : State) : State :=
  if s.source.state.dark then { s with buffers := s.buffers.map Buffer.clear }
  else if s.buffers.any Buffer.isReady then { s with buffers := s.buffers.map Buffer.promote }
  else if s.source.state = .locked then { s with repeated := bump s.repeated }
  else s

/-! ## The output frame start (R99) and the stop (R10) -/

/-- The seam view is published: mode and fade record of each slot that holds a seam (R78). -/
def State.publish (s : State) : State :=
  { s with published := some (s.seams.map fun q => q.map fun q => ⟨q.mode, q.fade⟩) }

/-- The frame view Output Engine Eh takes of head h (R99). -/
def State.viewOf (s : State) (h : Head) : FrameView where
  head := h
  w := s.setup.w
  h := s.setup.h
  s := s.setup.s
  enabled := (s.heads.get h).enabled
  tile := (s.heads.get h).tile
  depth := (s.heads.get h).depth
  mode := (s.heads.get h).mode
  lift0 := (s.heads.get h).lift0
  lift1 := (s.heads.get h).lift1
  bank := (s.mesh.get h).active
  geometry := s.seams.map fun q => q.map (·.geo)
  looks := s.published.getD (Quad.const none)
  curves := s.curves
  decode := s.live.decode
  encode := s.live.encode.get h
  input := s.source.state
  source := s.buffers.shownFrame

/-- Every Output Engine takes its frame view (R99). -/
def State.takeViews (s : State) : State := { s with views := Quad.ofFn fun h => some (s.viewOf h) }

/-- The output frame start: pending commits land (R31), fades advance (R77), the seam view is published
(R78), the hold count advances (R143), the shown buffer is chosen (R147), the engines take their views. -/
def State.outputFrameStart (s : State) : State :=
  (((forEach State.advanceFade s.landAll).publish.advanceHold).chooseBuffer).takeViews

/-- Output Timing moves to STOPPED: the flag and the pacing are dropped (R10), the engines drop their
views (R100), pending commits land (R32) and fades settle (R79). -/
def State.stopOutput (s : State) : State :=
  forEach State.endFade ({ s with timing := .stopped, views := Quad.const none }).landAll

/-- The event that produces an output frame start and leaves a pacing, or, with stop pending, the stop
(R7, R10). While STOPPED there is no such event. -/
def State.frameEvent (p : Pacing) (s : State) : State :=
  match s.timing with
  | .stopped => s
  | .running _ true _ => s.stopOutput
  | .running _ false _ => ({ s with timing := .running p false 0 }).outputFrameStart

/-- The output starts from STOPPED, with the pacing the rate and Source Input give (R9). With a LOCKED source no frame
start comes yet; a re-derivation before it starts a fade (log 38). -/
def State.startOutput (s : State) : State :=
  match s.setup.rate with
  | .fixed _ => ({ s with timing := .running .fixed false 0 }).outputFrameStart
  | .source =>
    if s.source.state = .locked then { s with timing := .running .following false 0 }
    else ({ s with timing := .running .freeRunning false 0 }).outputFrameStart

end Sys2Proof.Machine
end

