-- ==== Sys2Proof/Machine/Ports.lean ====
section
/-! DEFINITION. The Port Interface, the Request Queue and the Request Executor (11): receiving, admitting,
taking, authority, replying, and the commands of the port lines. -/

namespace Sys2Proof.Machine

/-! ## Reply buffers (R168) -/

/-- The bytes of a reply packet (R162). -/
def Reply.size (r : Reply) : Nat := 6 + r.body.length

/-- The bytes a reply packet sends: sync, LEN, TAG, STATUS, BODY, CHECK (R162). -/
def Reply.wire (r : Reply) : List Byte :=
  let inner := be1 r.body.length ++ [r.tag, r.status.code] ++ r.body
  0xA5 :: inner ++ be2 (crc inner).toNat

/-- The bytes of the reply packets a port's buffer holds. -/
def PortState.held (q : PortState) : Nat := (q.replies.map Reply.size).sum

/-- The room set aside in a port's buffer: 6 bytes for each queued entry of the port, 246 for the port's
request in hand. -/
def State.aside (s : State) (p : Port) : Nat :=
  6 * s.queue.countP (fun e => e.port == p) +
  (match s.inHand with
    | some e => if e.port = p then 246 else 0
    | none => 0)

/-- The free room of a port's reply buffer (R168). -/
def State.freeRoom (s : State) (p : Port) : Nat := Config.replyRoom - ((s.ports.get p).held + s.aside p)

/-- A reply enters at the end of a port's buffer. -/
def State.enter (p : Port) (r : Reply) (s : State) : State :=
  let q := s.ports.get p
  { s with ports := s.ports.set p { q with replies := q.replies ++ [r] } }

/-- An immediate reply enters if there are 6 bytes of free room, and is dropped otherwise (R168). -/
def State.immediate (p : Port) (tag : Byte) (st : Status) (s : State) : State :=
  if Config.shortestReply ≤ s.freeRoom p then s.enter p ⟨tag, st, []⟩ else s

/-! ## Admission and taking (R167, R169) -/

/-- The body bytes the queue holds. -/
def State.queueBytes (s : State) : Nat := (s.queue.map fun e => e.body.length).sum

/-- The four conditions of admission (R167). -/
def State.admits (s : State) (p : Port) (body : List Byte) : Bool :=
  decide (s.queue.length < Config.queueEntries) &&
  decide (s.queueBytes + body.length ≤ Config.queueBytes) &&
  decide (s.queue.countP (fun e => e.port == p) < Config.queuePerPort) &&
  decide (Config.shortestReply ≤ s.freeRoom p)

/-- Whether the Executor may take an entry: its port's buffer has 240 bytes of free room (R169). -/
def State.mayTake (s : State) (e : Entry) : Bool :=
  decide (Config.longestReply - Config.shortestReply ≤ s.freeRoom e.port)

/-- The Executor, when it is free, takes the oldest entry it may take (R169). -/
def State.takeNext (s : State) : State :=
  match s.inHand with
  | some _ => s
  | none =>
    match s.queue.find? s.mayTake with
    | none => s
    | some e => { s with queue := s.queue.eraseP s.mayTake, inHand := some e }

/-- A well-formed packet arrives on a port (R165): timers restart, then it is answered at once or
admitted to the queue. -/
def State.packetArrives (p : Port) (tag kind : Byte) (body : List Byte) (s : State) : State :=
  let s := s.restartClaims p
  let s := match p with
    | .head k => s.hear k
    | .ap => s
  if s.started = false then s.immediate p tag .wait
  else
    match Kind.ofCode? kind with
    | none => s.immediate p tag .unknown
    | some k =>
      if k.lengthOk body = false then s.immediate p tag .malformed
      else if s.admits p body then ({ s with queue := s.queue ++ [Entry.mk p tag kind body] }).takeNext
      else s.immediate p tag .wait

/-! ## The receive assembler (R161) -/

/-- The named state of a receive assembler: what the next byte is taken as. -/
def Assembler.state : Assembler → AssemblerState
  | .hunt => .hunt
  | .packet taken _ =>
    match taken with
    | [] => .len
    | [_] => .tag
    | [_, _] => .kind
    | len :: _ => if taken.length < len.toNat + 3 then .body else .check

/-- A port's assembler is written. -/
def State.setAssembler (p : Port) (a : Assembler) (s : State) : State :=
  { s with ports := s.ports.set p { s.ports.get p with assembler := a } }

/-- The second CHECK byte has been taken: the check over LEN, TAG, KIND and BODY is compared with the
CHECK field (R161). -/
def State.packetEnds (p : Port) (t : List Byte) (s : State) : State :=
  let n := u8 t 0 + 3
  if (crc (t.take n)).toNat = u16 t n then
    s.packetArrives p (t.getD 1 0) (t.getD 2 0) ((t.drop 3).take (u8 t 0))
  else s.immediate p (t.getD 1 0) .checkfail

/-- A byte is examined in HUNT (R161). -/
def State.hunt (p : Port) (s : State) (b : Byte) : State :=
  s.setAssembler p (if b = 0xA5 then .packet [] 0 else .hunt)

/-- One byte arrives on a port's line; one that ends a gap of more than 20 ms is examined in HUNT (R161). -/
def State.receiveByte (p : Port) (s : State) (b : Byte) : State :=
  match (s.ports.get p).assembler with
  | .hunt => s.hunt p b
  | .packet taken gap =>
    let t := taken ++ [b]
    if Config.gapTicks ≤ gap then s.hunt p b
    else if taken = [] ∧ 240 < b.toNat then s.setAssembler p .hunt
    else if t.length = u8 t 0 + 5 then (s.setAssembler p .hunt).packetEnds p t
    else s.setAssembler p (.packet t 0)

/-- Bytes arrive on a port's line, one after another. -/
def State.receive (p : Port) (bytes : List Byte) (s : State) : State := bytes.foldl (State.receiveByte p) s

/-- Arrivals on the ports, one after another. -/
def State.receiveAll (l : List Arrival) (s : State) : State :=
  l.foldl (fun s a => s.receive a.port a.bytes) s

/-- A request comes in whole on a port whose assembler hunts, as its packet's bytes would bring it (log 4). -/
def State.comeIn (p : Port) (tag : Byte) (k : Kind) (body : List Byte) (s : State) : State :=
  if (s.ports.get p).assembler.hunting ∧ body.length ≤ Config.maxBody then
    (s.setAssembler p .hunt).packetArrives p tag k.code body
  else s

/-! ## Authority (R171) -/

/-- The head a request names, for the kinds that name one; its body's first byte (R163). -/
def kindHead? (k : Kind) (body : List Byte) : Option Head :=
  match k with
  | .headSetup | .headQuery | .headMode | .meshWrite | .meshRead | .meshCommit | .meshDiscard | .meshHold
  | .meshQuery | .meshGenerate | .meshShift | .meshCopy | .headState | .presenceSetup | .liftSet =>
    Idx4.ofNat? (u8 body 0)
  | _ => none

/-- Whether a port has authority for a request (R171 with the table of R166, and R22). -/
def State.authorised (s : State) (k : Kind) (p : Port) (body : List Byte) : Bool :=
  match p with
  | .ap => true
  | .head j =>
    match k with
    | .status | .noticeRead | .noticeMask | .headQuery | .meshRead | .meshQuery | .seamQuery | .curveRead
    | .tableRead | .layoutRead => true
    | .headMode | .headState => decide (kindHead? k body = some j)
    | .meshWrite | .meshCommit | .meshGenerate | .meshShift | .meshCopy =>
      decide (kindHead? k body = some j) && !(s.heads.get j).hold
    | .meshDiscard => decide (kindHead? k body = some j) && !(s.heads.get j).hold && decide (u8 body 1 = 0)
    | .sourceQuery => decide (u8 body 0 = 0)
    | .restart | .outputSetup | .outputStart | .outputStop | .headSetup | .meshHold | .seamDefine
    | .seamDelete | .seamPin | .seamFades | .curveWrite | .presenceSetup | .tableWrite | .tableCommit
    | .liftSet | .holdSetup | .layoutApply | .save => false

/-! ## Carrying a request out (R169) -/

/-- How a request ended: the state its rule leaves, the reply's status and the reply's body. -/
structure Answer where
  state : State
  status : Status
  body : List Byte

/-- A refused request: nothing changes and the body is empty (R170). -/
def refuse (s : State) (st : Status) : Answer := ⟨s, st, []⟩

/-- A request answered DONE with an empty body. -/
def done (s : State) : Answer := ⟨s, .done, []⟩

/-- DONE, or ADJUSTED where a value was clamped, with an empty body (R170). -/
def adjusted (s : State) (clamped : Bool) : Answer := ⟨s, if clamped then .adjusted else .done, []⟩

/-- The lapse timer of the owner's claim on a head restarts as its request there is completed (R24). -/
def State.touch (h : Option Head) (p : Port) (s : State) : State :=
  match h with
  | none => s
  | some h => { s with mesh := s.mesh.set h ((s.mesh.get h).restartTimer p) }

/-- A reply of the Executor enters its port's buffer into the room set aside, and the Executor is free and
takes the next entry it may take (R168, R169). -/
def State.answered (p : Port) (r : Reply) (s : State) : State := (({ s with inHand := none }).enter p r).takeNext

/-- A request is completed: the owner's lapse timer restarts where it was carried out on a head (R24), and
its reply enters (R168, R169). -/
def State.finish (k : Kind) (e : Entry) (a : Answer) : State :=
  State.answered e.port ⟨e.tag, a.status, a.body⟩
    (if a.status.carried then a.state.touch (kindHead? k e.body) e.port else a.state)

/-- A request's answer: authority before every other check (R171), then the request's own rule. -/
def State.answerTo (k : Kind) (f : Port → List Byte → State → Answer) (e : Entry) (s : State) : Answer :=
  if s.authorised k e.port e.body then f e.port e.body s else refuse s .denied

/-- The Executor carries out the request it has in hand. -/
def State.carryOut (k : Kind) (f : Port → List Byte → State → Answer) (e : Entry) (s : State) : State :=
  State.finish k e (s.answerTo k f e)

/-- A request command: the request in hand is carried out. A request that is not in hand comes in as a
well-formed packet, and is carried out at once if the Executor was free and takes it (log 4). -/
def State.request (k : Kind) (f : Port → List Byte → State → Answer) (p : Port) (tag : Byte)
    (body : List Byte) (s : State) : Host.Outcome State Fault Refusal :=
  if s.inHand = some ⟨p, tag, k.code, body⟩ then .next (s.carryOut k f ⟨p, tag, k.code, body⟩)
  else if s.inHand = none ∧ (s.comeIn p tag k body).inHand = some ⟨p, tag, k.code, body⟩ then
    .next ((s.comeIn p tag k body).carryOut k f ⟨p, tag, k.code, body⟩)
  else .next (s.comeIn p tag k body)

/-! ## The commands of the port lines -/

/-- PACKET_RECEIVED (R161, R165). -/
def execPacketReceived (p : Port) (bytes : List Byte) (s : State) : Host.Outcome State Fault Refusal :=
  .next (s.receive p bytes)

/-- RECEIVE_GAP_TIMEOUT (R161): inside a packet, more than 20 ms have passed since the last byte. -/
def execReceiveGapTimeout (p : Port) (s : State) : Host.Outcome State Fault Refusal :=
  match (s.ports.get p).assembler with
  | .hunt => .next s
  | .packet _ gap => .next ((s.elapseTo Config.gapTicks gap).setAssembler p .hunt)

/-- BROKEN_BYTE (R160, R161): inside a packet it discards the packet, outside it is ignored. -/
def execBrokenByte (p : Port) (s : State) : Host.Outcome State Fault Refusal :=
  .next (s.setAssembler p .hunt)

/-- LEN_OVERSIZE (R161): a LEN byte above 240 discards the packet. -/
def execLenOversize (p : Port) (len : Byte) (s : State) : Host.Outcome State Fault Refusal :=
  if (s.ports.get p).assembler.state = .len ∧ 240 < len.toNat then .next (s.setAssembler p .hunt) else .next s

/-- REPLY_SENT (R168, R169): the first reply leaves the port's buffer and the Executor looks again. -/
def execReplySent (p : Port) (s : State) : Host.Outcome State Fault Refusal :=
  match (s.ports.get p).replies with
  | [] => .next s
  | _ :: rest => .next ({ s with ports := s.ports.set p { s.ports.get p with replies := rest } }).takeNext

end Sys2Proof.Machine
end

