-- ==== Sys2Proof/Machine/Seams.lean ====
section
/-! DEFINITION. Seams and blend curves (04), pins and fade lengths (05): SEAM_DEFINE, SEAM_DELETE,
SEAM_QUERY, SEAM_PIN, SEAM_FADES, CURVE_WRITE and CURVE_READ. -/

namespace Sys2Proof.Machine

/-- The geometry of the seam a slot holds. -/
def State.geometry (s : State) (sl : Slot) : Option SeamGeometry := (s.seams.get sl).map (·.geo)

/-- The tile of a head as its record holds it. -/
def State.tile (s : State) (h : Head) : Tile := (s.heads.get h).tile

/-- SEAM_DEFINE's rule (R57, R59): slot, orientation, falling head, rising head, a, b, curve, pin. -/
def answerSeamDefine (_ : Port) (body : List Byte) (s : State) : Answer :=
  if s.saving then refuse s .busy
  else
    match Idx4.ofNat? (u8 body 0), (seamAt body 1).check with
    | some sl, some (g, pin) =>
      if g.inTiles s.tile = false then refuse s .conflict
      else if freeOfClash sl g s.geometry = false then refuse s .conflict
      else done (s.placeSeam sl g pin 2 48)
    | _, _ => refuse s .invalid

/-- SEAM_DEFINE. -/
def execSeamDefine (p : Port) (tag : Byte) (body : List Byte) (s : State) : Host.Outcome State Fault Refusal :=
  s.request .seamDefine answerSeamDefine p tag body

/-- SEAM_DELETE's rule (R60): slot. -/
def answerSeamDelete (_ : Port) (body : List Byte) (s : State) : Answer :=
  if s.saving then refuse s .busy
  else
    match Idx4.ofNat? (u8 body 0) with
    | none => refuse s .invalid
    | some sl => done { s with seams := s.seams.set sl none }

/-- SEAM_DELETE. -/
def execSeamDelete (p : Port) (tag : Byte) (body : List Byte) (s : State) : Host.Outcome State Fault Refusal :=
  s.request .seamDelete answerSeamDelete p tag body

/-- The four fade fields of a seam report: presence, from, to, k, N, all 0 without a fade record (R164). -/
def fadeBytes : Option Fade → List Byte
  | some f => beBool true ++ be1 f.src.code ++ be1 f.dst.code ++ be1 f.k ++ be1 f.n
  | none => beBool false ++ be1 0 ++ be1 0 ++ be1 0 ++ be1 0

/-- The reply body of SEAM_QUERY (R61, R164): for an EMPTY slot every field after the second is 0. -/
def seamReport (sl : Slot) : Option Seam → List Byte
  | some q =>
    be1 sl.toNat ++ beBool true ++ be1 q.geo.orientation.code ++ be1 q.geo.falling.toNat ++
    be1 q.geo.rising.toNat ++ be2 q.geo.a ++ be2 q.geo.b ++ be1 q.geo.curve ++ be1 q.pin.code ++
    be1 q.nOut ++ be1 q.nIn ++ be1 q.mode.code ++ be1 q.target.code ++ fadeBytes q.fade
  | none => be1 sl.toNat ++ beBool false ++ List.replicate 18 0

/-- SEAM_QUERY's rule (R61): slot. -/
def answerSeamQuery (_ : Port) (body : List Byte) (s : State) : Answer :=
  match Idx4.ofNat? (u8 body 0) with
  | none => refuse s .invalid
  | some sl => ⟨s, .done, seamReport sl (s.seams.get sl)⟩

/-- SEAM_QUERY. -/
def execSeamQuery (p : Port) (tag : Byte) (body : List Byte) (s : State) : Host.Outcome State Fault Refusal :=
  s.request .seamQuery answerSeamQuery p tag body

/-- SEAM_PIN's rule (R73): slot, pin. -/
def answerSeamPin (_ : Port) (body : List Byte) (s : State) : Answer :=
  if s.saving then refuse s .busy
  else
    match Idx4.ofNat? (u8 body 0), Pin.ofCode? (u8 body 1) with
    | some sl, some pin =>
      match s.seams.get sl with
      | none => refuse s .invalid
      | some q => done (({ s with seams := s.seams.set sl (some { q with pin := pin }) }).retargetSlot sl)
    | _, _ => refuse s .invalid

/-- SEAM_PIN. -/
def execSeamPin (p : Port) (tag : Byte) (body : List Byte) (s : State) : Host.Outcome State Fault Refusal :=
  s.request .seamPin answerSeamPin p tag body

/-- SEAM_FADES' rule (R74): slot, N_out, N_in. -/
def answerSeamFades (_ : Port) (body : List Byte) (s : State) : Answer :=
  if s.saving then refuse s .busy
  else
    match Idx4.ofNat? (u8 body 0) with
    | none => refuse s .invalid
    | some sl =>
      match s.seams.get sl with
      | none => refuse s .invalid
      | some q => done { s with seams := s.seams.set sl (some { q with nOut := u8 body 1, nIn := u8 body 2 }) }

/-- SEAM_FADES. -/
def execSeamFades (p : Port) (tag : Byte) (body : List Byte) (s : State) : Host.Outcome State Fault Refusal :=
  s.request .seamFades answerSeamFades p tag body

/-- The law of a curve's entries: 65 of them, entry 0 is 0, entry 64 is 4,096, non-decreasing (R62, R64). -/
def curveOk (c : List Nat) : Bool :=
  decide (c.length = 65) && decide (c.getD 0 1 = 0) && decide (c.getD 64 0 = 4096) && nonDecreasing c

/-- CURVE_WRITE's rule (R64): curve, 65 entries. -/
def answerCurveWrite (_ : Port) (body : List Byte) (s : State) : Answer :=
  if s.saving then refuse s .busy
  else
    let n := u8 body 0
    let sent := entriesAt body 1 65
    let entries := sent.map (min 4096)
    if 3 ≤ n ∧ n ≤ 7 ∧ curveOk entries = true then
      adjusted { s with curves := s.curves.write n entries } (decide (entries ≠ sent))
    else refuse s .invalid

/-- CURVE_WRITE. -/
def execCurveWrite (p : Port) (tag : Byte) (body : List Byte) (s : State) : Host.Outcome State Fault Refusal :=
  s.request .curveWrite answerCurveWrite p tag body

/-- CURVE_READ's rule (R65): curve. -/
def answerCurveRead (_ : Port) (body : List Byte) (s : State) : Answer :=
  if u8 body 0 ≤ 7 then ⟨s, .done, be1 (u8 body 0) ++ entryBytes (s.curves.curve (u8 body 0))⟩
  else refuse s .invalid

/-- CURVE_READ. -/
def execCurveRead (p : Port) (tag : Byte) (body : List Byte) (s : State) : Host.Outcome State Fault Refusal :=
  s.request .curveRead answerCurveRead p tag body

end Sys2Proof.Machine
end

