-- ==== Sys2Proof/Machine/Image.lean ====
section
/-! DEFINITION. The stored image (12.1): its bytes as SAVE writes them, and its reading with the value rules of the
load (R180). -/

namespace Sys2Proof.Machine

/-! ## What the image holds (R178) -/

/-- A seam as the image holds it: without mode, target or fade record. -/
structure StoredSeam where
  geo : SeamGeometry
  pin : Pin
  nOut : Nat
  nIn : Nat
deriving DecidableEq, Repr

/-- The items of the body of a stored image. -/
structure Image where
  setup : OutputSetup
  heads : Quad HeadRecord
  banks : Quad (List Node)
  seams : Quad (Option StoredSeam)
  curves : Curves
  tables : Tables
  holdTime : Nat
deriving DecidableEq, Repr

/-- What the blocks hand to SAVE (R183). -/
def State.toImage (s : State) : Image where
  setup := s.setup
  heads := s.heads
  banks := s.mesh.map (·.active)
  seams := s.seams.map fun q => q.map fun q => ⟨q.geo, q.pin, q.nOut, q.nIn⟩
  curves := s.curves
  tables := s.live
  holdTime := s.source.holdTime

/-! ## Writing -/

/-- Whether a head mode is PATTERN. -/
def HeadMode.isPattern : HeadMode → Bool
  | .pattern _ => true
  | .live | .muted => false

/-- The pattern fields of a stored head record: all 0 without a pattern record. -/
def HeadMode.storedFields : HeadMode → PatternFields
  | .pattern q => q.fields
  | .live => ⟨0, rgbZero, 0, 0⟩
  | .muted => ⟨0, rgbZero, 0, 0⟩

/-- A head record in the image, 37 bytes. -/
def recordBytes (r : HeadRecord) : List Byte :=
  beBool r.enabled ++ tileBytes r.tile ++ be1 (depthBits r.depth) ++ be1 r.mode.code ++ beBool r.mode.isPattern ++
  patternBytes r.mode.storedFields ++ rgbBytes r.lift0 ++ rgbBytes r.lift1 ++ beBool r.hold ++ be1 r.period.code

/-- A seam slot in the image, 12 bytes. -/
def slotBytes : Option StoredSeam → List Byte
  | some q =>
    beBool true ++ be1 q.geo.orientation.code ++ be1 q.geo.falling.toNat ++ be1 q.geo.rising.toNat ++ be2 q.geo.a ++
    be2 q.geo.b ++ be1 q.geo.curve ++ be1 q.pin.code ++ be1 q.nOut ++ be1 q.nIn
  | none => List.replicate 12 0

/-- The body of an image (R178). -/
def Image.body (m : Image) : List Byte :=
  setupBytes m.setup ++ m.heads.toList.flatMap recordBytes ++ m.banks.toList.flatMap (fun b => b.flatMap nodeBytes) ++
  m.seams.toList.flatMap slotBytes ++ entryBytes m.curves.c3 ++ m.curves.c4to7.toList.flatMap entryBytes ++
  entryBytes m.tables.decode ++ m.tables.encode.toList.flatMap entryBytes ++ be2 m.holdTime

/-- The marker of the header (R178). -/
def imageMarker : List Byte := [0x5A, 0xC3, 0x3C, 0xA5]

/-- The 256 bytes of the header of a body (R178). -/
def imageHeader (body : List Byte) : List Byte :=
  imageMarker ++ be2 1 ++ be4 body.length ++ be2 (crc body).toNat ++ List.replicate 244 0

/-- The whole image, header and body. -/
def Image.bytes (m : Image) : List Byte := imageHeader m.body ++ m.body

/-! ## Reading (R180) -/

/-- The length a body takes with a node count (R178). -/
def bodyLength (nodes : Nat) : Nat := 3425 + 28 * nodes

/-- A run of nodes from the start of a list of bytes. -/
def readNodes : Nat → List Byte → List Node
  | 0, _ => []
  | n + 1, l => nodeAt l 0 :: readNodes n (l.drop 7)

/-- A run of two-byte entries from the start of a list of bytes. -/
def readEntries : Nat → List Byte → List Nat
  | 0, _ => []
  | n + 1, l => u16 l 0 :: readEntries n (l.drop 2)

/-- The mode of a stored head record: mode, pattern-present byte and pattern fields that keep the rule of
R180. -/
def readMode (mode present : Nat) (f : PatternFields) : Option HeadMode :=
  match mode, present with
  | 0, 0 => some .live
  | 1, 0 => some .muted
  | 2, 1 =>
    match f.pattern? with
    | some q => if q.clamp = q then some (.pattern q) else none
    | none => none
  | _, _ => none

/-- Six lift values each within 0..2,047 (R180). -/
def liftOk (c : Rgb) : Bool := decide (c.r ≤ 2047 ∧ c.g ≤ 2047 ∧ c.b ≤ 2047)

/-- A stored head record that keeps its rule, at the start of a list of bytes. -/
def readRecord (l : List Byte) : Option HeadRecord :=
  match bool? (u8 l 0), depth? (u8 l 9), readMode (u8 l 10) (u8 l 11) (patternAt l 12), bool? (u8 l 35),
    Period.ofCode? (u8 l 36) with
  | some en, some d, some m, some hold, some period =>
    let t := tileAt l 1
    let l0 := rgbAt l 23
    let l1 := rgbAt l 29
    if t.ok && liftOk l0 && liftOk l1 then some ⟨en, t, d, m, l0, l1, hold, period⟩ else none
  | _, _, _, _, _ => none

/-- A stored slot that keeps steps 2 and 3 of R57, at the start of a list of bytes: some none for EMPTY. -/
def readSlot (l : List Byte) : Option (Option StoredSeam) :=
  match u8 l 0 with
  | 0 => some none
  | 1 =>
    match (seamAt l 1).check with
    | some (g, pin) => some (some ⟨g, pin, u8 l 10, u8 l 11⟩)
    | none => none
  | _ => none

/-- Four of a kind that are all there. -/
def quad? {α : Type} (f : Idx4 → Option α) : Option (Quad α) :=
  match f .i0, f .i1, f .i2, f .i3 with
  | some a, some b, some c, some d => some ⟨a, b, c, d⟩
  | _, _, _, _ => none

/-- The rules of a set of seams against tiles and one another: steps 4 and 5 of R57 (R180, R58). -/
def seamsKeep (tile : Head → Tile) (geo : Slot → Option SeamGeometry) : Bool :=
  Idx4.all.all fun sl => match geo sl with
    | none => true
    | some g => g.inTiles tile && freeOfClash sl g geo

/-- The rule of the five tables (R180). -/
def tablesOk (t : Tables) : Bool :=
  nonDecreasing t.decode && t.encode.toList.all fun e => nonDecreasing e && e.all fun x => decide (x ≤ 4095)

/-- The value rules of R180 that look at the items as a whole: nodes, seams, curves, tables, hold time. -/
def Image.ok (m : Image) : Bool :=
  (m.banks.toList.all fun b => b.all Node.ok) &&
  seamsKeep (fun h => (m.heads.get h).tile) (fun sl => (m.seams.get sl).map (·.geo)) &&
  curveOk m.curves.c3 && m.curves.c4to7.toList.all curveOk && tablesOk m.tables && decide (m.holdTime ≤ 600)

/-- The items of a body that passed the tests of their own codes, read from their offsets. -/
def readItems (o : OutputSetup) (heads : Quad HeadRecord) (seams : Quad (Option StoredSeam)) (l : List Byte) :
    Image :=
  let banks := l.drop 155
  let curves := banks.drop (28 * o.nodes + 48)
  let tables := curves.drop 650
  { setup := o
    heads := heads
    banks := Quad.ofFn fun h => readNodes o.nodes (banks.drop (7 * o.nodes * h.toNat))
    seams := seams
    curves := ⟨readEntries 65 curves, Quad.ofFn fun k => readEntries 65 (curves.drop (130 * (k.toNat + 1)))⟩
    tables := ⟨readEntries 257 tables, Quad.ofFn fun k => readEntries 257 (tables.drop (514 * (k.toNat + 1)))⟩
    holdTime := u16 (tables.drop 2570) 0 }

/-- The image a body holds, if it keeps every value rule (R180). -/
def readImage (l : List Byte) : Option Image :=
  match setup? l with
  | none => none
  | some o =>
    if l.length = bodyLength o.nodes then
      match quad? (fun h => readRecord (l.drop (7 + 37 * h.toNat))),
        quad? (fun sl => readSlot (l.drop (155 + 28 * o.nodes + 12 * sl.toNat))) with
      | some heads, some seams =>
        if (readItems o heads seams l).ok then some (readItems o heads seams l) else none
      | _, _ => none
    else none

end Sys2Proof.Machine
end

