-- ==== Sys2Proof/Machine/ColdStart.lean ====
section
/-! DEFINITION. The cold start (12.2): COLD_RESET, the answers of the flash, the apply of the image, fail-safe and
auto-start. -/

namespace Sys2Proof.Machine

/-- What is known of the flash after a cold reset: as the operations of the part left it, and no marker where a
save was cut off in ERASING or WRITING_BODY (R184, R185, log 37). -/
def State.flashCut (s : State) : Flash :=
  match s.save with
  | .erasing _ => s.flash.eraseSector 0
  | .writingBody _ => s.flash.eraseSector 0
  | _ => s.flash

/-- COLD_RESET (R179; 00, Resets): every block at its cold-reset value, the straps read, the detect lines
examined at the levels they stand at. -/
def execColdReset (straps : BaudRate) (s : State) : Host.Outcome State Fault Refusal :=
  .next (.cold straps (s.monitor.map (·.line)) s.flashCut s.pending)

/-! ## The end of the cold start (R13, R181, R182) -/

/-- Auto-start acts: the output starts from STOPPED if the record's flag is yes (R13). -/
def State.autoStart (s : State) : State := if s.setup.autoStart && !s.running then s.startOutput else s

/-- The cold start ends with a code: the stored-image state follows, STARTED is raised, auto-start acts
(R179, R181, R182). -/
def State.endColdStart (code : Byte) (stored : StoredState) (s : State) : State :=
  (({ s with startCode := code, startPhase := .ended, stored := stored, flashTimer := none }).raise
    .started).autoStart

/-- The fail-safe case without an image: the flash or the marker is absent (R179, R182). -/
def State.noImage (code : Byte) (s : State) : State := s.endColdStart code .none

/-- The fail-safe case of an image found and refused (R179, R182). -/
def State.badImage (code : Byte) (s : State) : State := s.endColdStart code .invalid

/-! ## The apply (R98, R181) -/

/-- The presence state the apply leaves for a stored period (R98). -/
def Period.applied : Period → Presence
  | .off => .notWatched
  | .half => .absent
  | .one => .absent
  | .two => .absent
  | .four => .absent
  | .eight => .absent

/-- Steps 1 and 2 of the apply up to the re-derivations: setup, head records and presences. The seam slots
are EMPTY throughout the cold start. -/
def State.applyRecords (m : Image) (s : State) : State :=
  { s with
    setup := m.setup
    heads := m.heads
    monitor := Quad.ofFn fun h => { s.monitor.get h with presence := (m.heads.get h).period.applied }
    seams := Quad.const none }

/-- Steps 3 to 6 of the apply: banks, curves, tables and hold time. -/
def State.applyStores (m : Image) (s : State) : State :=
  { s with
    mesh := m.banks.map fun b => ⟨b, b, none, false, none⟩
    curves := m.curves
    live := m.tables
    staged := m.tables
    source := { s.source with holdTime := m.holdTime } }

/-- Step 7 of the apply on one slot: a stored seam is placed. -/
def State.applySeam (m : Image) (sl : Slot) (s : State) : State :=
  match m.seams.get sl with
  | some q => s.placeSeam sl q.geo q.pin q.nOut q.nIn
  | none => s

/-- The apply, as one phase (R181). -/
def State.applyImage (m : Image) (s : State) : State :=
  forEach (State.applySeam m) ((forEach State.rederive (s.applyRecords m)).applyStores m)

/-! ## The phases (R179) -/

/-- The check phase: the check over the body, then the value rules, then the apply. -/
def State.checkBody (check : BitVec 16) (body : List Byte) (s : State) : State :=
  if crc body = check then
    match readImage body with
    | some m => (s.applyImage m).endColdStart 0x10 .valid
    | none => s.badImage 0x14
  else s.badImage 0x13

/-- FLASH_IDENTIFY_ANSWERED (R179): an identify whose bytes are all 0xFF is not answered. -/
def execFlashIdentifyAnswered (ident : List Byte) (s : State) : Host.Outcome State Fault Refusal :=
  match s.startPhase with
  | .probe =>
    if ident.all fun b => b == 0xFF then .next s else .next { s with startPhase := .header, flashTimer := some 0 }
  | .header | .body .. | .ended => .next s

/-- HEADER_READ_ANSWERED (R178, R179): marker, format number, body length and check. -/
def execHeaderReadAnswered (read : FlashAnswer) (s : State) : Host.Outcome State Fault Refusal :=
  match s.startPhase with
  | .header =>
    let header := s.flash.answer read.failed 0 read.bytes
    let length := u16 header 6 * 65536 + u16 header 8
    let check := BitVec.ofNat 16 (u16 header 10)
    if read.bytes.length < 12 then .next s
    else if header.take 4 ≠ imageMarker then .next (s.noImage 0x12)
    else if u16 header 4 ≠ 1 ∨ Config.bodyRoom < length then .next (s.badImage 0x14)
    else if length = 0 then .next (s.checkBody check [])
    else .next { s with startPhase := .body length check [], flashTimer := some 0 }
  | .probe | .body .. | .ended => .next s

/-- BODY_READ_ANSWERED (R179): the next part of the body; with the last of it the check is made. -/
def execBodyReadAnswered (read : FlashAnswer) (s : State) : Host.Outcome State Fault Refusal :=
  match s.startPhase with
  | .body length check got =>
    let got' := (got ++ s.flash.answer read.failed (256 + got.length) read.bytes).take length
    if read.bytes = [] then .next s
    else if got'.length < length then
      .next { s with startPhase := .body length check got', flashTimer := some 0 }
    else .next (s.checkBody check got')
  | .probe | .header | .ended => .next s

/-- STARTUP_FLASH_TIMEOUT (R179): an operation of the cold start is not answered within 1 s. -/
def execStartupFlashTimeout (s : State) : Host.Outcome State Fault Refusal :=
  match s.started, s.flashTimer with
  | false, some t => .next ((s.elapseTo Config.flashTicks t).noImage 0x11)
  | _, _ => .next s

end Sys2Proof.Machine
end

