-- ==== Sys2Proof/Machine/Heads.lean ====
section
/-! DEFINITION. Head Records (01, 1.6 and 1.7; 08, 8.3): HEAD_SETUP, HEAD_QUERY, HEAD_MODE, LIFT_SET. -/

namespace Sys2Proof.Machine

/-- A head record is written. -/
def State.setHead (h : Head) (r : HeadRecord) (s : State) : State := { s with heads := s.heads.set h r }

/-- A head record is written, and a changed enabled flag is handed to the Presence Monitor (R17). -/
def State.writeHead (h : Head) (r : HeadRecord) (s : State) : State :=
  if r.enabled = (s.heads.get h).enabled then s.setHead h r else (s.setHead h r).rederive h

/-- Every defined seam that names a head has its band inside a tile along its axis (R16). -/
def State.bandsInside (s : State) (h : Head) (t : Tile) : Bool :=
  s.seams.toList.all fun q => match q with
    | none => true
    | some q => !q.geo.names h || q.geo.inTile t

/-- HEAD_SETUP's rule (R16, R17): head, enabled, x0, x1, y0, y1, depth. -/
def answerHeadSetup (_ : Port) (body : List Byte) (s : State) : Answer :=
  if s.saving then refuse s .busy
  else
    match Idx4.ofNat? (u8 body 0), bool? (u8 body 1), depth? (u8 body 10) with
    | some h, some en, some d =>
      let t := tileAt body 2
      if t.ok = false then refuse s .invalid
      else if s.bandsInside h t = false then refuse s .conflict
      else done (s.writeHead h { s.heads.get h with enabled := en, tile := t, depth := d })
    | _, _, _ => refuse s .invalid

/-- HEAD_SETUP. -/
def execHeadSetup (p : Port) (tag : Byte) (body : List Byte) (s : State) : Host.Outcome State Fault Refusal :=
  s.request .headSetup answerHeadSetup p tag body

/-- The four values the Presence Monitor reports of a head: presence state, light state, sink state,
contribution (R97). -/
def monitorBytes (m : Monitor) : List Byte :=
  be1 m.presence.code ++ be1 m.light.code ++ beBool m.sink ++ beBool m.contributes

/-- The reply body of HEAD_QUERY (R19, R164). -/
def headReport (h : Head) (r : HeadRecord) (m : Monitor) : List Byte :=
  be1 h.toNat ++ beBool r.enabled ++ tileBytes r.tile ++ be1 (depthBits r.depth) ++ be1 r.mode.code ++
  patternBytes r.mode.fields ++ rgbBytes r.lift0 ++ rgbBytes r.lift1 ++ beBool r.hold ++ be1 r.period.code ++
  monitorBytes m

/-- HEAD_QUERY's rule (R19). -/
def answerHeadQuery (_ : Port) (body : List Byte) (s : State) : Answer :=
  match Idx4.ofNat? (u8 body 0) with
  | none => refuse s .invalid
  | some h => ⟨s, .done, headReport h (s.heads.get h) (s.monitor.get h)⟩

/-- HEAD_QUERY. -/
def execHeadQuery (p : Port) (tag : Byte) (body : List Byte) (s : State) : Host.Outcome State Fault Refusal :=
  s.request .headQuery answerHeadQuery p tag body

/-- The mode HEAD_MODE asks for, with used pattern fields clamped, and whether one was (R18, R129);
none for a mode or a pattern kind outside its list. -/
def askedMode (body : List Byte) : Option (HeadMode × Bool) :=
  match u8 body 1 with
  | 0 => some (.live, false)
  | 1 => some (.muted, false)
  | 2 =>
    match (patternAt body 2).pattern? with
    | none => none
    | some q => some (.pattern q.clamp, decide (q.clamp ≠ q))
  | _ => none

/-- HEAD_MODE's rule (R18, R129): head, mode, pattern fields. -/
def answerHeadMode (_ : Port) (body : List Byte) (s : State) : Answer :=
  match Idx4.ofNat? (u8 body 0), askedMode body with
  | some h, some (m, clamped) => adjusted (s.setHead h { s.heads.get h with mode := m }) clamped
  | _, _ => refuse s .invalid

/-- HEAD_MODE. -/
def execHeadMode (p : Port) (tag : Byte) (body : List Byte) (s : State) : Host.Outcome State Fault Refusal :=
  s.request .headMode answerHeadMode p tag body

/-- LIFT_SET's rule (R128): head, lift0 R, G, B, lift1 R, G, B. -/
def answerLiftSet (_ : Port) (body : List Byte) (s : State) : Answer :=
  if s.saving then refuse s .busy
  else
    match Idx4.ofNat? (u8 body 0) with
    | none => refuse s .invalid
    | some h =>
      let l0 := rgbAt body 1
      let l1 := rgbAt body 7
      let c0 := rgbMap (min 2047) l0
      let c1 := rgbMap (min 2047) l1
      adjusted (s.setHead h { s.heads.get h with lift0 := c0, lift1 := c1 }) (decide (c0 ≠ l0 ∨ c1 ≠ l1))

/-- LIFT_SET. -/
def execLiftSet (p : Port) (tag : Byte) (body : List Byte) (s : State) : Host.Outcome State Fault Refusal :=
  s.request .liftSet answerLiftSet p tag body

end Sys2Proof.Machine
end

