-- ==== Sys2Proof/Machine/Layout.lean ====
section
/-! DEFINITION. Layout presets (10): the six presets, their tiles and bands, LAYOUT_READ and LAYOUT_APPLY. -/

namespace Sys2Proof.Machine

/-- A used head of a preset with its column and row (R151). -/
structure PresetHead where
  head : Head
  column : Nat
  row : Nat
deriving DecidableEq, Repr

/-- A seam of a preset: slot, orientation, heads, and the place m of its earlier head on its axis (R151, R153). -/
structure PresetSeam where
  slot : Slot
  orientation : Orientation
  falling : Head
  rising : Head
  place : Nat
deriving DecidableEq, Repr

/-- An entry of the Layout Preset Table (R151). -/
structure Preset where
  nc : Nat
  nr : Nat
  heads : List PresetHead
  seams : List PresetSeam
deriving DecidableEq, Repr

/-- The six presets (R151). -/
def preset? : Nat → Option Preset
  | 0 => some ⟨1, 1, [⟨.i0, 0, 0⟩], []⟩
  | 1 => some ⟨2, 1, [⟨.i0, 0, 0⟩, ⟨.i1, 1, 0⟩], [⟨.i0, .vertical, .i0, .i1, 0⟩]⟩
  | 2 => some ⟨3, 1, [⟨.i0, 0, 0⟩, ⟨.i1, 1, 0⟩, ⟨.i2, 2, 0⟩],
      [⟨.i0, .vertical, .i0, .i1, 0⟩, ⟨.i1, .vertical, .i1, .i2, 1⟩]⟩
  | 3 => some ⟨4, 1, [⟨.i0, 0, 0⟩, ⟨.i1, 1, 0⟩, ⟨.i2, 2, 0⟩, ⟨.i3, 3, 0⟩],
      [⟨.i0, .vertical, .i0, .i1, 0⟩, ⟨.i1, .vertical, .i1, .i2, 1⟩, ⟨.i2, .vertical, .i2, .i3, 2⟩]⟩
  | 4 => some ⟨1, 2, [⟨.i0, 0, 0⟩, ⟨.i1, 0, 1⟩], [⟨.i0, .horizontal, .i0, .i1, 0⟩]⟩
  | 5 => some ⟨2, 2, [⟨.i0, 0, 0⟩, ⟨.i1, 1, 0⟩, ⟨.i2, 0, 1⟩, ⟨.i3, 1, 1⟩],
      [⟨.i0, .vertical, .i0, .i1, 0⟩, ⟨.i1, .vertical, .i2, .i3, 0⟩,
       ⟨.i2, .horizontal, .i0, .i2, 0⟩, ⟨.i3, .horizontal, .i1, .i3, 0⟩]⟩
  | _ => none

/-! ## Tiles and bands (R152, R153) -/

/-- The tile length T of an axis of length Lc with n heads at overlap p. -/
def tileLength (lc n p : Nat) : Nat := (64 * lc) / (64 * n - (n - 1) * p)

/-- The step from one tile to the next: T less the overlap length (T p) div 64. -/
def tileStep (lc n p : Nat) : Nat := tileLength lc n p - (tileLength lc n p * p) / 64

/-- The extent of place m: first and last canvas unit (R152). -/
def extent (lc n p m : Nat) : Nat × Nat :=
  if n = 1 then (0, lc - 1)
  else
    (m * tileStep lc n p,
      if m = n - 1 then lc - 1 else m * tileStep lc n p + tileLength lc n p - 1)

/-- The tile of a used head (R152). -/
def Preset.tile (q : Preset) (p : Nat) (x : PresetHead) : Tile :=
  let across := extent 4096 q.nc p x.column
  let down := extent 2304 q.nr p x.row
  ⟨across.1, across.2, down.1, down.2⟩

/-- The geometry of a seam of a preset: the band between the places m and m + 1 of its axis, with curve
SMOOTH (R153). -/
def Preset.geometry (q : Preset) (p : Nat) (x : PresetSeam) : SeamGeometry :=
  let (lc, n) := match x.orientation with
    | .vertical => (4096, q.nc)
    | .horizontal => (2304, q.nr)
  ⟨x.orientation, x.falling, x.rising, (x.place + 1) * tileStep lc n p,
    x.place * tileStep lc n p + tileLength lc n p - 1, 1⟩

/-- The overlap held to 4..24 (R154). -/
def clampOverlap (p : Nat) : Nat := max 4 (min p 24)

/-- The reply body of LAYOUT_READ (R154, R164). -/
def layoutReport (id : Nat) (q : Preset) (p : Nat) : List Byte :=
  be1 id ++ be1 q.nc ++ be1 q.nr ++ be1 p ++ be1 q.heads.length ++
  q.heads.flatMap (fun x => be1 x.head.toNat ++ tileBytes (q.tile p x)) ++ be1 q.seams.length ++
  q.seams.flatMap (fun x =>
    let g := q.geometry p x
    be1 x.slot.toNat ++ be1 g.orientation.code ++ be1 g.falling.toNat ++ be1 g.rising.toNat ++ be2 g.a ++
    be2 g.b ++ be1 g.curve ++ be1 Pin.auto.code)

/-- LAYOUT_READ's rule (R154): preset id, overlap. -/
def answerLayoutRead (_ : Port) (body : List Byte) (s : State) : Answer :=
  match preset? (u8 body 0) with
  | none => refuse s .invalid
  | some q =>
    let p := clampOverlap (u8 body 1)
    ⟨s, if p = u8 body 1 then .done else .adjusted, layoutReport (u8 body 0) q p⟩

/-- LAYOUT_READ. -/
def execLayoutRead (p : Port) (tag : Byte) (body : List Byte) (s : State) : Host.Outcome State Fault Refusal :=
  s.request .layoutRead answerLayoutRead p tag body

/-! ## Applying a layout (R155 to R158) -/

/-- The place of a head in a preset, if it is a used head. -/
def Preset.place? (q : Preset) (h : Head) : Option PresetHead := q.heads.find? fun x => x.head == h

/-- A head record as the apply writes it: a used head enabled with its new tile, an unused head disabled
(R156). -/
def Preset.record (q : Preset) (p : Nat) (h : Head) (r : HeadRecord) : HeadRecord :=
  match q.place? h with
  | some x => { r with enabled := true, tile := q.tile p x }
  | none => { r with enabled := false }

/-- Step one of the apply: the slots are emptied, then the head records are written, a changed enabled flag
re-deriving its head's contribution (R156). -/
def State.layHeads (q : Preset) (p : Nat) (s : State) : State :=
  forEach (fun h s => s.writeHead h (q.record p h (s.heads.get h))) { s with seams := Quad.const none }

/-- Step two of the apply: the seams of the entry are placed (R157). -/
def State.laySeams (q : Preset) (p : Nat) (s : State) : State :=
  q.seams.foldl (fun s x => s.placeSeam x.slot (q.geometry p x) .auto 2 48) s

/-- The Mesh Store's step on one used head: STAGED becomes the flat mesh, the claim is released without a
lapse record, the commit is made pending or lands (R158). -/
def State.layMesh (h : Head) (s : State) : State :=
  let m := { s.mesh.get h with staged := flatMesh s.setup (s.heads.get h).tile, claim := none }
  ({ s with mesh := s.mesh.set h m }).commit h

/-- Step three of the apply: the Mesh Store acts on every used head (R158). -/
def State.layMeshes (q : Preset) (s : State) : State :=
  forEach (fun h s => if (q.place? h).isSome then s.layMesh h else s) s

/-- The claim on a head is held by a head port. -/
def HeadMesh.claimedByHead (m : HeadMesh) : Bool :=
  match m.claim with
  | some ⟨.head _, _⟩ => true
  | some ⟨.ap, _⟩ => false
  | none => false

/-- A used head's claim is held by a head port, or a commit is pending on it (R155 steps 3 and 4). -/
def HeadMesh.blocksLayout (m : HeadMesh) : Bool :=
  m.claimedByHead || m.commitPending

/-- LAYOUT_APPLY's rule (R155): preset id, overlap. -/
def answerLayoutApply (_ : Port) (body : List Byte) (s : State) : Answer :=
  if s.saving then refuse s .busy
  else
    match preset? (u8 body 0) with
    | none => refuse s .invalid
    | some q =>
      if q.heads.any fun x => (s.mesh.get x.head).blocksLayout then refuse s .busy
      else
        let p := clampOverlap (u8 body 1)
        ⟨((s.layHeads q p).laySeams q p).layMeshes q, if p = u8 body 1 then .done else .adjusted,
          be1 (u8 body 0) ++ be1 p⟩

/-- LAYOUT_APPLY. -/
def execLayoutApply (p : Port) (tag : Byte) (body : List Byte) (s : State) : Host.Outcome State Fault Refusal :=
  s.request .layoutApply answerLayoutApply p tag body

end Sys2Proof.Machine
end

