-- ==== Sys2Proof/Machine/Mesh.lean ====
section
/-! DEFINITION. Warp meshes (02): the examination of modifying mesh requests, and MESH_WRITE, MESH_READ,
MESH_COMMIT, MESH_DISCARD, MESH_HOLD and MESH_QUERY. -/

namespace Sys2Proof.Machine

/-- The lapse record of a head is cleared by the LAPSED answer to the port it names (R23 step 2, R26). -/
def State.clearLapse (h : Head) (s : State) : State :=
  { s with mesh := s.mesh.set h { s.mesh.get h with lapse := none } }

/-- Steps 1 and 2 of R23: the head index, and the lapse record that names the port. Past them the request
goes on by its own rule. -/
def examine (p : Port) (index : Nat) (s : State) (rule : Head → Answer) : Answer :=
  match Idx4.ofNat? index with
  | none => refuse s .invalid
  | some h => if (s.mesh.get h).lapse = some p then refuse (s.clearLapse h) .lapsed else rule h

/-- Whether a port other than p holds the claim on a head. -/
def HeadMesh.claimedByOther (m : HeadMesh) (p : Port) : Bool :=
  match m.claim with
  | some c => decide (c.owner ≠ p)
  | none => false

/-- Steps 1 to 4 of R23: a commit pending or a claim of another port answers BUSY. -/
def examineEdit (p : Port) (index : Nat) (s : State) (rule : Head → Answer) : Answer :=
  examine p index s fun h =>
    if (s.mesh.get h).commitPending then refuse s .busy
    else if (s.mesh.get h).claimedByOther p then refuse s .busy
    else rule h

/-- The mesh state of a head is written. -/
def State.setMesh (h : Head) (m : HeadMesh) (s : State) : State := { s with mesh := s.mesh.set h m }

/-- A bank with a run of nodes written from a place on. -/
def writeRun (bank : List Node) (start : Nat) : List Node → List Node
  | [] => bank
  | n :: rest => writeRun (bank.set start n) (start + 1) rest

/-- MESH_WRITE's rule (R27): head, start, count, nodes. -/
def answerMeshWrite (p : Port) (body : List Byte) (s : State) : Answer :=
  examineEdit p (u8 body 0) s fun h =>
    let start := u16 body 1
    let count := u8 body 3
    if 1 ≤ count ∧ count ≤ 32 ∧ start + count ≤ s.setup.nodes then
      let sent := nodesAt body 4 count
      let nodes := sent.map Node.clamp
      let m := (s.mesh.get h).takeClaim p
      adjusted (s.setMesh h { m with staged := writeRun m.staged start nodes }) (decide (nodes ≠ sent))
    else refuse s .invalid

/-- MESH_WRITE. -/
def execMeshWrite (p : Port) (tag : Byte) (body : List Byte) (s : State) : Host.Outcome State Fault Refusal :=
  s.request .meshWrite answerMeshWrite p tag body

/-- The bank a selector names: 0 ACTIVE, 1 STAGED (R28). -/
def HeadMesh.bank? (m : HeadMesh) : Nat → Option (List Node)
  | 0 => some m.active
  | 1 => some m.staged
  | _ => none

/-- MESH_READ's rule (R28): head, bank selector, start, count. -/
def answerMeshRead (_ : Port) (body : List Byte) (s : State) : Answer :=
  match Idx4.ofNat? (u8 body 0) with
  | none => refuse s .invalid
  | some h =>
    match (s.mesh.get h).bank? (u8 body 1) with
    | none => refuse s .invalid
    | some bank =>
      let start := u16 body 2
      let count := u8 body 4
      if 1 ≤ count ∧ count ≤ 32 ∧ start + count ≤ s.setup.nodes then
        ⟨s, .done, be1 h.toNat ++ be1 (u8 body 1) ++ be2 start ++ be1 count ++
          ((bank.drop start).take count).flatMap nodeBytes⟩
      else refuse s .invalid

/-- MESH_READ. -/
def execMeshRead (p : Port) (tag : Byte) (body : List Byte) (s : State) : Host.Outcome State Fault Refusal :=
  s.request .meshRead answerMeshRead p tag body

/-- MESH_COMMIT's rule (R29): head. -/
def answerMeshCommit (p : Port) (body : List Byte) (s : State) : Answer :=
  examine p (u8 body 0) s fun h =>
    match (s.mesh.get h).claim, (s.mesh.get h).commitPending with
    | some c, false => if c.owner = p then done (s.commit h) else refuse s .busy
    | some c, true => if c.owner = p then done s else refuse s .busy
    | none, true => refuse s .busy
    | none, false => done s

/-- MESH_COMMIT. -/
def execMeshCommit (p : Port) (tag : Byte) (body : List Byte) (s : State) : Host.Outcome State Fault Refusal :=
  s.request .meshCommit answerMeshCommit p tag body

/-- MESH_DISCARD's rule (R34, R35): head, force flag. -/
def answerMeshDiscard (p : Port) (body : List Byte) (s : State) : Answer :=
  match bool? (u8 body 1) with
  | none => refuse s .invalid
  | some force =>
    examine p (u8 body 0) s fun h =>
      if (s.mesh.get h).commitPending then refuse s .busy
      else
        match (s.mesh.get h).claim with
        | none => done s
        | some c =>
          if c.owner = p then done (s.setMesh h (s.mesh.get h).revert)
          else if force then done (s.loseClaim h c.owner)
          else refuse s .busy

/-- MESH_DISCARD. -/
def execMeshDiscard (p : Port) (tag : Byte) (body : List Byte) (s : State) : Host.Outcome State Fault Refusal :=
  s.request .meshDiscard answerMeshDiscard p tag body

/-- Setting hold acts as a forced discard of a head port's claim with no commit pending (R36). -/
def State.holdDiscard (h : Head) (s : State) : State :=
  match (s.mesh.get h).claim, (s.mesh.get h).commitPending with
  | some ⟨.head k, _⟩, false => s.loseClaim h (.head k)
  | _, _ => s

/-- MESH_HOLD's rule (R36): head, hold. -/
def answerMeshHold (_ : Port) (body : List Byte) (s : State) : Answer :=
  if s.saving then refuse s .busy
  else
    match Idx4.ofNat? (u8 body 0), bool? (u8 body 1) with
    | some h, some x =>
      let r := s.heads.get h
      let s' := { s with heads := s.heads.set h { r with hold := x } }
      done (if x && !r.hold then s'.holdDiscard h else s')
    | _, _ => refuse s .invalid

/-- MESH_HOLD. -/
def execMeshHold (p : Port) (tag : Byte) (body : List Byte) (s : State) : Host.Outcome State Fault Refusal :=
  s.request .meshHold answerMeshHold p tag body

/-- The time since a claim's timer last restarted, in whole milliseconds up to 10,000; 0 with no claim
(R37). DESIGN CHOICE (log 35): R37 gives steps of 1 ms and no rounding, and the model rounds down. -/
def HeadMesh.silentMs (m : HeadMesh) : Nat :=
  match m.claim with
  | some c => min 10000 (c.timer / Config.ticksPerMs)
  | none => 0

/-- The reply body of MESH_QUERY (R37, R164). -/
def meshReport (h : Head) (s : State) : List Byte :=
  let m := s.mesh.get h
  be1 h.toNat ++ be1 s.setup.columns ++ be1 s.setup.rows ++ be1 (portCode? (m.claim.map (·.owner))) ++
  be2 m.silentMs ++ beBool m.commitPending ++ beBool (m.commitPending && s.saving) ++
  beBool (s.heads.get h).hold ++ be1 (portCode? m.lapse)

/-- MESH_QUERY's rule (R37): head. -/
def answerMeshQuery (_ : Port) (body : List Byte) (s : State) : Answer :=
  match Idx4.ofNat? (u8 body 0) with
  | none => refuse s .invalid
  | some h => ⟨s, .done, meshReport h s⟩

/-- MESH_QUERY. -/
def execMeshQuery (p : Port) (tag : Byte) (body : List Byte) (s : State) : Host.Outcome State Fault Refusal :=
  s.request .meshQuery answerMeshQuery p tag body

end Sys2Proof.Machine
end

