-- ==== Sys2Proof/Machine/LongMesh.lean ====
section
/-! DEFINITION. Long mesh operations (03): chunks, and MESH_GENERATE, MESH_SHIFT and MESH_COPY. -/

namespace Sys2Proof.Machine

/-! ## Chunks (R45) -/

/-- The queue holds a request admitted from a port other than the requester (R45). -/
def State.othersWait (s : State) (p : Port) : Bool := s.queue.any fun e => e.port != p

/-- How far a chunk has run: the state with the packets that arrived while it ran received, the nodes
processed, and the arrivals still to come. -/
structure Chunk where
  state : State
  processed : Nat
  rest : List Arrival

/-- The run of a chunk from `n` processed nodes on, 64 at a time: after each step the arrivals due by then
are received, and the chunk ends at its count, at 512 nodes, or where another port's request waits
(R45). The first argument is the number of steps left before 512. -/
def runChunk (p : Port) (count : Nat) : Nat → Nat → List Arrival → State → Chunk
  | 0, n, during, s => ⟨s, n, during⟩
  | fuel + 1, n, during, s =>
    let n' := min (n + Config.chunkStep) count
    let due := during.takeWhile fun a => decide (a.after ≤ n')
    let rest := during.drop due.length
    let s' := s.receiveAll due
    if n' = count then ⟨s', n', rest⟩
    else if s'.othersWait p then ⟨s', n', rest⟩
    else runChunk p count fuel n' rest s'

/-- The chunk of a request with a count (R45): at most 512 nodes, in steps of 64. -/
def State.chunk (s : State) (p : Port) (count : Nat) (during : List Arrival) : Chunk :=
  runChunk p count (Config.chunkNodes / Config.chunkStep) 0 during s

/-! ## What each operation writes -/

/-- The operands of MESH_GENERATE after the run: origin, column step, row step, visible selector (R40). -/
structure Affine where
  ou : Int
  ov : Int
  cu : Int
  cv : Int
  ru : Int
  rv : Int
  visible : Nat
deriving DecidableEq, Repr

/-- The visible flag a selector gives a node (R40). -/
def selectVisible (sel : Nat) (kept : Bool) : Bool :=
  match sel with
  | 0 => false
  | 1 => true
  | _ => kept

/-- The position MESH_GENERATE computes for node index k before clamping (R40). -/
def Affine.node (g : Affine) (columns k : Nat) (old : Node) : Node :=
  let i : Int := ((k % columns : Nat) : Int)
  let j : Int := ((k / columns : Nat) : Int)
  ⟨g.ou + (i * g.cu + j * g.ru + 128) / 256, g.ov + (i * g.cv + j * g.rv + 128) / 256,
    selectVisible g.visible old.visible⟩

/-- The sum MESH_SHIFT forms for a node before clamping (R42). -/
def shiftNode (du dv : Int) (old : Node) : Node := ⟨old.u + du, old.v + dv, old.visible⟩

/-- A node with nothing in it, read from a place no bank has. -/
def Node.none : Node := ⟨0, 0, false⟩

/-- n nodes of a bank from a place on, each rewritten by its index and its old value and clamped, in
ascending order; with the number of nodes that were clamped (R41). -/
def rewriteRun (f : Nat → Node → Node) : Nat → Nat → List Node → List Node × Nat
  | 0, _, bank => (bank, 0)
  | n + 1, k, bank =>
    let x := f k (bank.getD k Node.none)
    let r := rewriteRun f n (k + 1) (bank.set k x.clamp)
    (r.1, r.2 + if x.clamp = x then 0 else 1)

/-- n nodes copied one after another from a source bank, read as it stands, into a bank (R44). -/
def copyRun (src : List Node) : Nat → Nat → Nat → List Node → List Node
  | 0, _, _, bank => bank
  | n + 1, from_, to_, bank => copyRun src n (from_ + 1) (to_ + 1) (bank.set to_ (src.getD from_ Node.none))

/-- n nodes copied one after another inside one bank: a node written early is read again later (R44). -/
def copyWithin : Nat → Nat → Nat → List Node → List Node
  | 0, _, _, bank => bank
  | n + 1, from_, to_, bank => copyWithin n (from_ + 1) (to_ + 1) (bank.set to_ (bank.getD from_ Node.none))

/-! ## Replies and the shape of the three requests -/

/-- The status of a carried-out chunk (R46). -/
def chunkStatus (remaining clamped : Nat) : Status :=
  if remaining ≠ 0 then .partialDone else if clamped ≠ 0 then .adjusted else .done

/-- The reply body shared by the three operations (R46, R164). -/
def cursorBytes (h : Head) (processed clamped next remaining : Nat) : List Byte :=
  be1 h.toNat ++ be2 processed ++ be2 clamped ++ be2 next ++ be2 remaining

/-- The answer of a long operation, and the arrivals that had not come when its chunk ended. -/
structure LongAnswer where
  answer : Answer
  rest : List Arrival

/-- A long operation that processes no node: the arrivals all come after it. -/
def longRefuse (a : Answer) (during : List Arrival) : LongAnswer := ⟨a, during⟩

/-- The head of a long operation: steps 1 to 4 of R23 (R39). -/
def examineLong (p : Port) (index : Nat) (during : List Arrival) (s : State)
    (rule : Head → LongAnswer) : LongAnswer :=
  match Idx4.ofNat? index with
  | none => longRefuse (refuse s .invalid) during
  | some h =>
    if (s.mesh.get h).lapse = some p then longRefuse (refuse (s.clearLapse h) .lapsed) during
    else if (s.mesh.get h).commitPending then longRefuse (refuse s .busy) during
    else if (s.mesh.get h).claimedByOther p then longRefuse (refuse s .busy) during
    else rule h

/-- The checks of a run at step 5 of R23 (R39, R43): a count of at least 1, within the grid. -/
def runInside (s : State) (start count : Nat) : Bool :=
  decide (1 ≤ count) && decide (start < s.setup.nodes) && decide (start + count ≤ s.setup.nodes)

/-- The bank of a head is rewritten: the STAGED bank alone (R39). -/
def State.setStaged (h : Head) (bank : List Node) (s : State) : State :=
  { s with mesh := s.mesh.set h { s.mesh.get h with staged := bank } }

/-- A chunk that rewrites nodes of a STAGED bank: the claim is taken, the chunk runs, its nodes are
written as one step (R39, R45, R46, R48). -/
def rewriteChunk (p : Port) (h : Head) (start count : Nat) (f : Nat → Node → Node) (during : List Arrival)
    (s : State) : LongAnswer :=
  let c := (s.setMesh h ((s.mesh.get h).takeClaim p)).chunk p count during
  let r := rewriteRun f c.processed start (c.state.mesh.get h).staged
  let remaining := count - c.processed
  ⟨⟨c.state.setStaged h r.1, chunkStatus remaining r.2,
    cursorBytes h c.processed r.2 (start + c.processed) remaining⟩, c.rest⟩

/-- MESH_GENERATE's rule (R39, R40): head, start, count, ou, ov, cu, cv, ru, rv, visible selector. -/
def answerMeshGenerate (during : List Arrival) (p : Port) (body : List Byte) (s : State) : LongAnswer :=
  examineLong p (u8 body 0) during s fun h =>
    let start := u16 body 1
    let count := u16 body 3
    let g : Affine :=
      ⟨s24 body 5, s24 body 8, s24 body 11, s24 body 14, s24 body 17, s24 body 20, u8 body 23⟩
    if runInside s start count && decide (g.visible ≤ 2) then
      rewriteChunk p h start count (g.node s.setup.columns) during s
    else longRefuse (refuse s .invalid) during

/-- MESH_SHIFT's rule (R39, R42): head, start, count, du, dv. -/
def answerMeshShift (during : List Arrival) (p : Port) (body : List Byte) (s : State) : LongAnswer :=
  examineLong p (u8 body 0) during s fun h =>
    let start := u16 body 1
    let count := u16 body 3
    if runInside s start count then
      rewriteChunk p h start count (fun _ => shiftNode (s24 body 5) (s24 body 8)) during s
    else longRefuse (refuse s .invalid) during

/-- The STAGED bank of head h after n nodes are copied from a bank of head src (R44): inside one bank where
the source is h's own STAGED bank. -/
def State.copied (s : State) (h src : Head) (sel n from_ to_ : Nat) : List Node :=
  if src = h ∧ sel = 1 then copyWithin n from_ to_ (s.mesh.get h).staged
  else copyRun (((s.mesh.get src).bank? sel).getD []) n from_ to_ (s.mesh.get h).staged

/-- MESH_COPY's rule (R39, R43, R44): head, start, count, source head, source bank selector, source start. -/
def answerMeshCopy (during : List Arrival) (p : Port) (body : List Byte) (s : State) : LongAnswer :=
  examineLong p (u8 body 0) during s fun h =>
    let start := u16 body 1
    let count := u16 body 3
    let sel := u8 body 6
    let from_ := u16 body 7
    match Idx4.ofNat? (u8 body 5) with
    | none => longRefuse (refuse s .invalid) during
    | some src =>
      if runInside s start count && decide (sel ≤ 1) && runInside s from_ count then
        let c := (s.setMesh h ((s.mesh.get h).takeClaim p)).chunk p count during
        let remaining := count - c.processed
        ⟨⟨c.state.setStaged h (c.state.copied h src sel c.processed from_ start), chunkStatus remaining 0,
          cursorBytes h c.processed 0 (start + c.processed) remaining ++ be2 (from_ + c.processed)⟩, c.rest⟩
      else longRefuse (refuse s .invalid) during

/-- A long operation is carried out: authority, its rule, its reply, then the packets that came after its
chunk had ended (R45, log 6). -/
def State.carryOutLong (k : Kind) (f : List Arrival → Port → List Byte → State → LongAnswer)
    (during : List Arrival) (e : Entry) (s : State) : State :=
  let r := if s.authorised k e.port e.body then f during e.port e.body s
    else longRefuse (refuse s .denied) during
  (State.finish k e r.answer).receiveAll r.rest

/-- A long operation's command, as any request command (log 4); arrivals that meet no chunk come after. -/
def State.requestLong (k : Kind) (f : List Arrival → Port → List Byte → State → LongAnswer) (p : Port)
    (tag : Byte) (body : List Byte) (during : List Arrival) (s : State) : Host.Outcome State Fault Refusal :=
  if s.inHand = some ⟨p, tag, k.code, body⟩ then .next (s.carryOutLong k f during ⟨p, tag, k.code, body⟩)
  else if s.inHand = none ∧ (s.comeIn p tag k body).inHand = some ⟨p, tag, k.code, body⟩ then
    .next ((s.comeIn p tag k body).carryOutLong k f during ⟨p, tag, k.code, body⟩)
  else .next ((s.comeIn p tag k body).receiveAll during)

/-- MESH_GENERATE. -/
def execMeshGenerate (p : Port) (tag : Byte) (body : List Byte) (during : List Arrival) (s : State) :
    Host.Outcome State Fault Refusal :=
  s.requestLong .meshGenerate answerMeshGenerate p tag body during

/-- MESH_SHIFT. -/
def execMeshShift (p : Port) (tag : Byte) (body : List Byte) (during : List Arrival) (s : State) :
    Host.Outcome State Fault Refusal :=
  s.requestLong .meshShift answerMeshShift p tag body during

/-- MESH_COPY. -/
def execMeshCopy (p : Port) (tag : Byte) (body : List Byte) (during : List Arrival) (s : State) :
    Host.Outcome State Fault Refusal :=
  s.requestLong .meshCopy answerMeshCopy p tag body during

end Sys2Proof.Machine
end

