-- ==== Sys2Proof/Machine/Presence.lean ====
section
/-! DEFINITION. The Presence Monitor (06): detect lines, presence and light, and the lapse of a claim. -/

namespace Sys2Proof.Machine

/-- The monitor of a head as its detect line comes to stand at a level: a level that differs from the sink
state starts the debounce timer, one that agrees stops it (R91). -/
def Monitor.lineAt (level : Bool) (m : Monitor) : Monitor :=
  { m with
    line := level
    debounce := if level = m.sink then none else if m.debounce = none then some 0 else m.debounce }

/-- DETECT_LINE_CHANGE (R91). -/
def execDetectLineChange (h : Head) (level : Bool) (s : State) : Host.Outcome State Fault Refusal :=
  .next { s with monitor := s.monitor.set h ((s.monitor.get h).lineAt level) }

/-- A debounce timer reaches 200 ms: the sink state takes the line's level and the timer stops (R91). -/
def State.settleSink (h : Head) (s : State) : State :=
  let m := s.monitor.get h
  ({ s with monitor := s.monitor.set h { m with sink := m.line, debounce := none } }).rederive h

/-- SINK_DEBOUNCE_EXPIRY (R91). -/
def execSinkDebounceExpiry (h : Head) (s : State) : Host.Outcome State Fault Refusal :=
  match (s.monitor.get h).debounce with
  | none => .next s
  | some t => .next ((s.elapseTo Config.debounceTicks t).settleSink h)

/-- PRESENCE_EXPIRY (R86): the presence timer of a PRESENT head reaches its period. -/
def execPresenceExpiry (h : Head) (s : State) : Host.Outcome State Fault Refusal :=
  match (s.monitor.get h).presence, (s.heads.get h).period.ticks with
  | .present t, some limit => .next ((s.elapseTo limit t).setPresence h .lost)
  | _, _ => .next s

/-- CLAIM_LAPSE (R25): the lapse timer of a claim reaches 10 s with no commit pending. -/
def execClaimLapse (h : Head) (s : State) : Host.Outcome State Fault Refusal :=
  match (s.mesh.get h).claim, (s.mesh.get h).commitPending with
  | some c, false => .next ((s.elapseTo Config.lapseTicks c.timer).loseClaim h c.owner)
  | _, _ => .next s

/-- The reply body of HEAD_STATE and PRESENCE_SETUP (R164). -/
def stateReport (h : Head) (s : State) : List Byte := be1 h.toNat ++ monitorBytes (s.monitor.get h)

/-- HEAD_STATE's rule (R90): head, light state. -/
def answerHeadState (_ : Port) (body : List Byte) (s : State) : Answer :=
  match Idx4.ofNat? (u8 body 0), Light.ofCode? (u8 body 1) with
  | some h, some l =>
    let s' := if l = (s.monitor.get h).light then s
      else ({ s with monitor := s.monitor.set h { s.monitor.get h with light := l } }).rederive h
    ⟨s', .done, stateReport h s'⟩
  | _, _ => refuse s .invalid

/-- HEAD_STATE. -/
def execHeadState (p : Port) (tag : Byte) (body : List Byte) (s : State) : Host.Outcome State Fault Refusal :=
  s.request .headState answerHeadState p tag body

/-- The presence state a new period leaves, by the table of R88. -/
def Presence.withPeriod (old new : Period) (x : Presence) : Presence :=
  if old = new then x
  else if new = .off then .notWatched
  else if old = .off then .present 0
  else
    match x with
    | .present _ => .present 0
    | .notWatched => .notWatched
    | .absent => .absent
    | .lost => .lost

/-- PRESENCE_SETUP's rule (R87, R88): head, period code. -/
def answerPresenceSetup (_ : Port) (body : List Byte) (s : State) : Answer :=
  if s.saving then refuse s .busy
  else
    match Idx4.ofNat? (u8 body 0), Period.ofCode? (u8 body 1) with
    | some h, some n =>
      let r := s.heads.get h
      let old := (s.monitor.get h).presence
      let new := old.withPeriod r.period n
      let s' := s.setHead h { r with period := n }
      let s' := if new = old then s' else s'.setPresence h new
      ⟨s', .done, stateReport h s'⟩
    | _, _ => refuse s .invalid

/-- PRESENCE_SETUP. -/
def execPresenceSetup (p : Port) (tag : Byte) (body : List Byte) (s : State) : Host.Outcome State Fault Refusal :=
  s.request .presenceSetup answerPresenceSetup p tag body

end Sys2Proof.Machine
end

