-- ==== Sys2Proof/Machine/Timing.lean ====
section
/-! DEFINITION. Output Timing (01): the expiries that pace the output, the two that name what a frame start brings,
and OUTPUT_SETUP, OUTPUT_START and OUTPUT_STOP. -/

namespace Sys2Proof.Machine

/-- The frame period under FIXED, from the rate of the record (R5). -/
def State.fixedPeriod (s : State) : Nat :=
  match s.setup.rate with
  | .fixed f => f.period
  | .source => s.measuredPeriod

/-- The time from one output frame start to the next that Output Timing produces by itself: the rate's
period under FIXED (R5), the measured period under FREE_RUNNING, P + P/4 under FOLLOWING (R7). -/
def State.frameDue (s : State) : Pacing → Nat
  | .fixed => s.fixedPeriod
  | .freeRunning => s.measuredPeriod
  | .following => s.measuredPeriod + s.measuredPeriod / 4

/-- FRAME_PERIOD_EXPIRY (R5, R7, R10): under FIXED or FREE_RUNNING the frame period ends. -/
def execFramePeriodExpiry (s : State) : Host.Outcome State Fault Refusal :=
  match s.timing with
  | .running .fixed _ e => .next ((s.elapseTo (s.frameDue .fixed) e).frameEvent .fixed)
  | .running .freeRunning _ e => .next ((s.elapseTo (s.frameDue .freeRunning) e).frameEvent .freeRunning)
  | .running .following _ _ => .next s
  | .stopped => .next s

/-- FOLLOW_TIMEOUT (R7, R10): under FOLLOWING, P + P/4 passes with no locked source frame start. -/
def execFollowTimeout (s : State) : Host.Outcome State Fault Refusal :=
  match s.timing with
  | .running .following _ e => .next ((s.elapseTo (s.frameDue .following) e).frameEvent .freeRunning)
  | .running .fixed _ _ => .next s
  | .running .freeRunning _ _ => .next s
  | .stopped => .next s

/-- The next event of Output Timing's own pacing: its output frame start, or the stop where one is pending
(R5, R7, R10). -/
def State.ownEvent (s : State) : State :=
  match s.timing with
  | .running .fixed _ e => (s.elapseTo (s.frameDue .fixed) e).frameEvent .fixed
  | .running .freeRunning _ e => (s.elapseTo (s.frameDue .freeRunning) e).frameEvent .freeRunning
  | .running .following _ e => (s.elapseTo (s.frameDue .following) e).frameEvent .freeRunning
  | .stopped => s

/-- Whether the next event of Output Timing is an output frame start: RUNNING with no stop pending (R10). -/
def Timing.brings : Timing → Bool
  | .running _ stopPending _ => !stopPending
  | .stopped => false

/-- FADE_SETTLE (R77): the output frame start at which the seam's k reaches N. Where the fade stands one frame
start before its end, that is the next frame start, with all it brings (log 7). -/
def execFadeSettle (sl : Slot) (s : State) : Host.Outcome State Fault Refusal :=
  match (s.seams.get sl).bind (·.fade) with
  | some f => if s.timing.brings && decide (f.k + 1 = f.n) then .next s.ownEvent else .next s
  | none => .next s

/-- HOLD_TIME_EXPIRY (R143): the output frame start at which the hold count exceeds the hold time. Where the
count stands at the hold time in HOLDING, that is the next frame start, with all it brings (log 7). -/
def execHoldTimeExpiry (s : State) : Host.Outcome State Fault Refusal :=
  if s.timing.brings && decide (s.source.state = .holding) && decide (s.source.holdTime < s.source.holdCount + 1) then
    .next s.ownEvent
  else .next s

/-- A head's banks are reset by a change of the grid: both become the flat mesh of its tile, the claim is
released without a lapse record, and MESH_LANDED is raised (R12). -/
def State.resetBanks (h : Head) (s : State) : State :=
  let flat := flatMesh s.setup (s.heads.get h).tile
  ({ s with mesh := s.mesh.set h { s.mesh.get h with active := flat, staged := flat, claim := none } }).raise
    (.meshLanded h)

/-- OUTPUT_SETUP's rule (R11, R12). -/
def answerOutputSetup (_ : Port) (body : List Byte) (s : State) : Answer :=
  if s.saving then refuse s .busy
  else if s.running then refuse s .busy
  else
    match setup? body with
    | none => refuse s .invalid
    | some o =>
      let s' := { s with setup := o }
      if o.w = s.setup.w ∧ o.h = s.setup.h ∧ o.s = s.setup.s then done s' else done (forEach State.resetBanks s')

/-- OUTPUT_SETUP. -/
def execOutputSetup (p : Port) (tag : Byte) (body : List Byte) (s : State) : Host.Outcome State Fault Refusal :=
  s.request .outputSetup answerOutputSetup p tag body

/-- OUTPUT_START's rule (R9). -/
def answerOutputStart (_ : Port) (_ : List Byte) (s : State) : Answer :=
  match s.timing with
  | .stopped => done s.startOutput
  | .running p _ e => done { s with timing := .running p false e }

/-- OUTPUT_START. -/
def execOutputStart (p : Port) (tag : Byte) (body : List Byte) (s : State) : Host.Outcome State Fault Refusal :=
  s.request .outputStart answerOutputStart p tag body

/-- OUTPUT_STOP's rule (R10). -/
def answerOutputStop (_ : Port) (_ : List Byte) (s : State) : Answer :=
  match s.timing with
  | .stopped => done s
  | .running p _ e => done { s with timing := .running p true e }

/-- OUTPUT_STOP. -/
def execOutputStop (p : Port) (tag : Byte) (body : List Byte) (s : State) : Host.Outcome State Fault Refusal :=
  s.request .outputStop answerOutputStop p tag body

end Sys2Proof.Machine
end

