-- ==== Sys2Proof/Machine/Source.lean ====
section
/-! DEFINITION. Source Input and the Frame Buffers (09): the events of the source link, SOURCE_QUERY and
HOLD_SETUP. -/

namespace Sys2Proof.Machine

/-! ## Measuring a frame (R136, R137, R138) -/

/-- A code of the source link's width: the link carries no higher bits. -/
def linkCode (d : Depth) (c : Nat) : Nat := c % 2 ^ (match d with
  | .d8 => 8
  | .d10 => 10
  | .d12 => 12)

/-- An incoming code widened to 12 bits (R137). -/
def widen (d : Depth) (c : Nat) : Nat :=
  match d with
  | .d8 => linkCode .d8 c * 16 + linkCode .d8 c / 16
  | .d10 => linkCode .d10 c * 4 + linkCode .d10 c / 256
  | .d12 => linkCode .d12 c

/-- A pixel widened alike on its three channels (R137). -/
def widenPixel (d : Depth) (c : Rgb) : Rgb := ⟨widen d c.r, widen d c.g, widen d c.b⟩

/-- What Source Input writes of a frame: at most 2,304 lines of at most 4,096 pixels, widened (R136). -/
def written (d : Depth) (lines : List (List Rgb)) : List (List Rgb) :=
  (lines.take 2304).map fun l => (l.take 4096).map (widenPixel d)

/-- The outcome of a frame that ended at its source frame end (R138). -/
inductive FrameOutcome where
  | complete (z : Size)
  | outOfRange (z : Size)
  | broken
deriving DecidableEq, Repr

/-- Whether a size is supported (R138). -/
def Size.supported (z : Size) : Bool := decide (640 ≤ z.w ∧ z.w ≤ 4096 ∧ 360 ≤ z.h ∧ z.h ≤ 2304)

/-- The class of a frame by its lines: Ws is the first line's pixels, Hs the number of lines (R136, R138). -/
def classify : List (List Rgb) → FrameOutcome
  | [] => .broken
  | l :: rest =>
    if rest.all fun x => x.length == l.length then
      let z : Size := ⟨l.length, rest.length + 1⟩
      if z.supported then .complete z else .outOfRange z
    else .broken

/-! ## The source frame start (R6, R7, R140, R143, R146) -/

/-- The measured source period takes the interval that ends now, if this start and the last both arrived
while LOCKED, limited to 1/60 s and 1,001/24,000 s (R6). -/
def State.measure (interval : Nat) (s : State) : State :=
  if s.source.state = .locked ∧ s.source.prevStartLocked = true then
    { s with measured := some (max Config.minPeriod (min interval Config.maxPeriod)) }
  else s

/-- The input state at a source frame start: from NO_SIGNAL, HOLDING or BLACK to ACQUIRING with run count 0;
from HOLDING and BLACK the hold count returns to 0 (R140, R143). -/
def State.acquire (s : State) : State :=
  match s.source.state with
  | .noSignal => ({ s with source := { s.source with runCount := 0 } }).setInput .acquiring
  | .holding | .black =>
    ({ s with source := { s.source with runCount := 0, holdCount := 0 } }).setInput .acquiring
  | .acquiring | .locked | .unsupported => s

/-- A frame cut by a source frame start is BROKEN: in ACQUIRING the run count returns to 0 (R140). -/
def State.cutRun (s : State) : State :=
  if s.buffers.any Buffer.isFilling = true ∧ s.source.state = .acquiring then
    { s with source := { s.source with runCount := 0 } }
  else s

/-- The filling step of a source frame start: the frame in flight is cut, the lowest-numbered FREE buffer
becomes FILLING for the new frame (R145, R146). -/
def State.fillStep (width : Nat) (s : State) : State :=
  let s' := s.cutRun.cutFrame
  { s' with buffers := s'.buffers.fill width }

/-- The pacing step of a source frame start: while LOCKED under FOLLOWING or FREE_RUNNING it produces an
output frame start, or the stop, and FOLLOWING (R7, R10). -/
def State.paceStep (locked : Bool) (s : State) : State :=
  match s.timing with
  | .running .following _ _ => if locked then s.frameEvent .following else s
  | .running .freeRunning _ _ => if locked then s.frameEvent .following else s
  | .running .fixed _ _ => s
  | .stopped => s

/-- What Source Input notes at a source frame start: the loss timer restarts, the bits per channel are
written, and whether it arrived while LOCKED (R139, R142, R6). -/
def State.noteStart (bits : Depth) (s : State) : State :=
  { s with source := { s.source with
      lossTimer := some 0
      bits := some bits
      prevStartLocked := decide (s.source.state = .locked) } }

/-- A source frame start, its moment reached (R136, R140, R143, R146, R6, R7). -/
def State.sourceStart (opening : FrameOpening) (interval : Nat) (showFirst : Bool) (s : State) : State :=
  let locked := decide (s.source.state = .locked)
  let s := (s.measure interval).noteStart opening.bits
  if showFirst then ((s.paceStep locked).fillStep opening.width).acquire
  else ((s.fillStep opening.width).acquire).paceStep locked

/-- SOURCE_FRAME_START (R146): the interval is the time since the previous source frame start, which the
loss timer has been running since. -/
def execSourceFrameStart (opening : FrameOpening) (interval : Nat) (showFirst : Bool) (s : State) :
    Host.Outcome State Fault Refusal :=
  match s.source.lossTimer with
  | some t => .next ((s.elapseTo interval t).sourceStart opening (max interval t) showFirst)
  | none => .next (s.sourceStart opening interval showFirst)

/-! ## The source frame end (R138, R140, R141, R144, R146) -/

/-- The frame's FILLING buffer becomes READY; a READY buffer it replaces counts as dropped while RUNNING
(R146, R148). -/
def State.frameReady (f : SourceFrame) (s : State) : State :=
  { s with
    buffers := s.buffers.map (Buffer.finish f)
    dropped := if s.buffers.any Buffer.isReady && s.running then bump s.dropped else s.dropped }

/-- The frame's FILLING buffer becomes FREE (R146). -/
def State.frameLetGo (s : State) : State := { s with buffers := s.buffers.map Buffer.cut }

/-- The candidate size and the run count are written (R140). -/
def State.setCandidate (z : Size) (s : State) : State :=
  { s with source := { s.source with candidate := some z, runCount := 1 } }

/-- A COMPLETE frame ends (R140, R141, R144, R146). -/
def State.completeFrame (z : Size) (f : SourceFrame) (s : State) : State :=
  match s.source.state with
  | .acquiring =>
    if s.source.runCount = 1 ∧ s.source.candidate = some z then
      (({ s with source := { s.source with locked := some z, runCount := 0 } }).setInput .locked).frameReady f
    else (s.setCandidate z).frameLetGo
  | .locked =>
    if s.source.locked = some z then s.frameReady f
    else ((s.setCandidate z).setInput .acquiring).frameLetGo
  | .unsupported => ((s.setCandidate z).setInput .acquiring).frameLetGo
  | .noSignal | .holding | .black => s.frameLetGo

/-- An OUT_OF_RANGE frame ends (R139, R140, R141, R144). -/
def State.outOfRangeFrame (z : Size) (s : State) : State :=
  let s := { s with source := { s.source with outOfRange := some z } }
  match s.source.state with
  | .acquiring =>
    (({ s with source := { s.source with runCount := 0 } }).setInput .unsupported).frameLetGo
  | .locked => (s.setInput .unsupported).frameLetGo
  | .unsupported | .noSignal | .holding | .black => s.frameLetGo

/-- SOURCE_FRAME_END (R138): the frame in flight ends with the lines the link brought. With no frame in
flight it changes nothing (log 3). -/
def execSourceFrameEnd (lines : List (List Rgb)) (s : State) : Host.Outcome State Fault Refusal :=
  if s.buffers.any Buffer.isFilling then
    match classify lines with
    | .complete z => .next (s.completeFrame z ⟨z, written (s.source.bits.getD .d12) lines⟩)
    | .outOfRange z => .next (s.outOfRangeFrame z)
    | .broken => .next s.cutRun.cutFrame
  else .next s

/-! ## Loss (R142) -/

/-- The input state after a loss (R142, R143). -/
def State.loseInput (s : State) : State :=
  match s.source.state with
  | .locked =>
    let s' := ({ s with source := { s.source with holdCount := 0 } }).setInput .holding
    if s.source.holdTime = 0 then s'.setInput .black else s'
  | .acquiring =>
    ({ s with source := { s.source with candidate := none, runCount := 0 } }).setInput .noSignal
  | .unsupported => s.setInput .noSignal
  | .noSignal | .holding | .black => s

/-- SOURCE_LOSS (R142): the loss timer reaches 100 ms and stops, and a frame in flight is cut. -/
def execSourceLoss (s : State) : Host.Outcome State Fault Refusal :=
  match s.source.lossTimer with
  | none => .next s
  | some t =>
    let s' := s.elapseTo Config.lossTicks t
    .next (({ s' with source := { s'.source with lossTimer := none } }).cutFrame).loseInput

/-! ## Requests (R149, R150) -/

/-- One buffer in the report of SOURCE_QUERY: its state, and its size outside FREE. Of a FILLING one the width is
sent as it is held, and the height, which the part holds only at the source frame end, as 0 (R136, R145, R164,
log 10). -/
def bufferBytes (b : Buffer) : List Byte :=
  be1 b.code ++ (match b with
    | .free => sizeBytes none
    | .filling w => sizeBytes (some ⟨w, 0⟩)
    | .ready f => sizeBytes (some f.size)
    | .shown f => sizeBytes (some f.size))

/-- The reply body of SOURCE_QUERY (R150, R164); a size, count or period the part does not hold at the moment is sent
as 0. DESIGN CHOICE (log 39): so are the bits per channel before any source frame has started. -/
def sourceReport (s : State) : List Byte :=
  let i := s.source
  let acquiring := decide (i.state = .acquiring)
  be1 i.state.code ++ sizeBytes i.locked ++ sizeBytes (if acquiring then i.candidate else none) ++
  be1 (if acquiring then i.runCount else 0) ++ be2 (if i.state = .holding then i.holdCount else 0) ++
  be2 i.holdTime ++ be1 (match i.bits with
    | some d => depthBits d
    | none => 0) ++ sizeBytes i.outOfRange ++
  bufferBytes s.buffers.b0 ++ bufferBytes s.buffers.b1 ++ bufferBytes s.buffers.b2 ++
  be2 s.dropped ++ be2 s.repeated ++ be2 s.broken ++ be4 (s.measured.getD 0 / 3)

/-- SOURCE_QUERY's rule (R150): clear flag. The counters are cleared after they stand in the reply. -/
def answerSourceQuery (_ : Port) (body : List Byte) (s : State) : Answer :=
  match bool? (u8 body 0) with
  | none => refuse s .invalid
  | some false => ⟨s, .done, sourceReport s⟩
  | some true => ⟨{ s with dropped := 0, repeated := 0, broken := 0 }, .done, sourceReport s⟩

/-- SOURCE_QUERY. -/
def execSourceQuery (p : Port) (tag : Byte) (body : List Byte) (s : State) : Host.Outcome State Fault Refusal :=
  s.request .sourceQuery answerSourceQuery p tag body

/-- HOLD_SETUP's rule (R149): hold time. -/
def answerHoldSetup (_ : Port) (body : List Byte) (s : State) : Answer :=
  if s.saving then refuse s .busy
  else adjusted { s with source := { s.source with holdTime := min (u16 body 0) 600 } } (decide (600 < u16 body 0))

/-- HOLD_SETUP. -/
def execHoldSetup (p : Port) (tag : Byte) (body : List Byte) (s : State) : Host.Outcome State Fault Refusal :=
  s.request .holdSetup answerHoldSetup p tag body

end Sys2Proof.Machine
end

