-- ==== Sys2Proof/Machine/Status.lean ====
section
/-! DEFINITION. The requests of the Port Interface's own chapter (11.5, 11.6): STATUS, NOTICE_READ, NOTICE_MASK
and RESTART. -/

namespace Sys2Proof.Machine

/-! ## STATUS (R176) -/

/-- Timing state, pacing and stop-pending flag as STATUS reports them; with no pacing 255 is sent
(R163, R164). -/
def timingBytes : Timing → List Byte
  | .stopped => be1 0 ++ be1 255 ++ beBool false
  | .running p sp _ => be1 1 ++ be1 p.code ++ beBool sp

/-- The reply body of STATUS (R164, R176). -/
def statusReport (s : State) : List Byte :=
  [s.startCode] ++ be1 s.stored.code ++ be1 s.save.code ++ be1 s.queue.length ++ be2 s.queueBytes ++
  timingBytes s.timing ++ be1 s.source.state.code ++ Idx4.all.flatMap (fun h => beBool (s.contributes h))

/-- STATUS's rule (R176). -/
def answerStatus (_ : Port) (_ : List Byte) (s : State) : Answer := ⟨s, .done, statusReport s⟩

/-- STATUS. -/
def execStatus (p : Port) (tag : Byte) (body : List Byte) (s : State) : Host.Outcome State Fault Refusal :=
  s.request .status answerStatus p tag body

/-! ## Notices (R174, R175) -/

/-- A port's notice set is written. -/
def State.setNotices (p : Port) (n : NoticeSet) (s : State) : State :=
  { s with ports := s.ports.set p { s.ports.get p with notices := n } }

/-- NOTICE_READ's rule (R174): the port's set is taken into the reply and emptied. -/
def answerNoticeRead (p : Port) (_ : List Byte) (s : State) : Answer :=
  ⟨s.setNotices p 0, .done, noticeBytes (s.ports.get p).notices⟩

/-- NOTICE_READ. -/
def execNoticeRead (p : Port) (tag : Byte) (body : List Byte) (s : State) : Host.Outcome State Fault Refusal :=
  s.request .noticeRead answerNoticeRead p tag body

/-- A port's mask is written. -/
def State.setMask (p : Port) (n : NoticeSet) (s : State) : State :=
  { s with ports := s.ports.set p { s.ports.get p with mask := n } }

/-- NOTICE_MASK's rule (R175): bits 19 to 23 must be clear. -/
def answerNoticeMask (p : Port) (body : List Byte) (s : State) : Answer :=
  if u24 body 0 < 2 ^ 19 then
    ⟨s.setMask p (BitVec.ofNat 19 (u24 body 0)), .done, noticeBytes (BitVec.ofNat 19 (u24 body 0))⟩
  else refuse s .invalid

/-- NOTICE_MASK. -/
def execNoticeMask (p : Port) (tag : Byte) (body : List Byte) (s : State) : Host.Outcome State Fault Refusal :=
  s.request .noticeMask answerNoticeMask p tag body

/-! ## RESTART (R177) -/

/-- Step 1 of a warm restart: every entry of the queue is answered ABORTED, in order of admission, and the
queue is left empty. -/
def State.abortQueue (s : State) : State :=
  s.queue.foldl (fun s e => s.enter e.port ⟨e.tag, .aborted, []⟩) { s with queue := [] }

/-- A warm restart restarts the presence timer of a head in PRESENT (R84). -/
def Presence.rewatch : Presence → Presence
  | .present _ => .present 0
  | .notWatched => .notWatched
  | .absent => .absent
  | .lost => .lost

/-- A warm restart on the mesh state of a head (R38). -/
def HeadMesh.restart (m : HeadMesh) : HeadMesh := ⟨m.active, m.active, none, false, none⟩

/-- A warm restart settles a fading seam at its to mode and sets no notice (R81). -/
def Seam.restart (q : Seam) : Seam := q.endFade.1

/-- A warm restart aborts a save in flight: no further operation is issued, the one under way is left to
end on the flash, the save state becomes ABORTED (R185). -/
def State.abortSave (s : State) : State :=
  if s.saving then { s with save := .aborted, abortedOp := s.flashOp, flashTimer := none } else s

/-- Step 2 of a warm restart: each block as its own chapter gives (R84, R38, R81, R120, R148, R185). -/
def State.restartBlocks (s : State) : State :=
  State.abortSave { s with
    monitor := s.monitor.map fun m => { m with presence := m.presence.rewatch }
    mesh := s.mesh.map HeadMesh.restart
    seams := s.seams.map fun q => q.map Seam.restart
    staged := s.live
    dropped := 0
    repeated := 0
    broken := 0 }

/-- Step 3 of a warm restart: every notice set is emptied and takes STARTED, and SAVE_FINISHED where a save
was aborted. -/
def State.restartSets (aborted : Bool) (s : State) : State :=
  { s with ports := s.ports.map fun q => { q with notices := restartNotices aborted } }

/-- The warm restart, as one step (R177). -/
def State.warmRestart (s : State) : State := s.abortQueue.restartBlocks.restartSets s.saving

/-- RESTART's rule (R177). -/
def answerRestart (_ : Port) (_ : List Byte) (s : State) : Answer := done s.warmRestart

/-- RESTART. -/
def execRestart (p : Port) (tag : Byte) (body : List Byte) (s : State) : Host.Outcome State Fault Refusal :=
  s.request .restart answerRestart p tag body

end Sys2Proof.Machine
end

