-- ==== Sys2Proof/Machine/Store.lean ====
section
/-! DEFINITION. Saving (12.3): SAVE, the flash answers that move a save through its phases, its timeout, and the
end of an aborted flash operation. -/

namespace Sys2Proof.Machine

/-- A save's flash operation of a phase is issued (R184). -/
def State.issue (x : SaveState) (s : State) : Flash :=
  match x.op s.image with
  | some op => s.flash.begin op
  | none => s.flash

/-- The save's flash operation of the phase at hand ends (R184). -/
def State.opEnds (s : State) : State :=
  match s.save.op s.image with
  | some op => { s with flash := s.flash.finish op }
  | none => s

/-- SAVE's rule (R183): the image is taken as one step, the first erase is issued (R184), or waits behind
an aborted operation that is still under way (R185); its limit counts from now either way. -/
def answerSave (_ : Port) (_ : List Byte) (s : State) : Answer :=
  if s.saving then refuse s .busy
  else done { s with
    save := .erasing 0
    stored := .invalid
    image := s.toImage.bytes
    flashTimer := some 0
    flash := if s.abortedOp = none then s.issue (.erasing 0) else s.flash }

/-- SAVE. -/
def execSave (p : Port) (tag : Byte) (body : List Byte) (s : State) : Host.Outcome State Fault Refusal :=
  s.request .save answerSave p tag body

/-- The sectors the new image occupies (R178, R184). -/
def State.sectors (s : State) : Nat := (s.image.length + 4095) / 4096

/-- The pages of the body of the new image (R178, R184). -/
def State.pages (s : State) : Nat := (s.image.length - 256 + 255) / 256

/-- A save goes on with another flash operation, whose limit counts from its issue (R184). -/
def State.saveGoesOn (x : SaveState) (s : State) : State :=
  { s with save := x, flashTimer := some 0, flash := s.issue x }

/-- A save ends with an outcome: SAVE_FINISHED is raised, and while STOPPED pending commits land at the end
itself (R184, R33). -/
def State.endSave (outcome : SaveState) (s : State) : State :=
  let s' := ({ s with save := outcome, flashTimer := none }).raise .saveFinished
  if s.running then s' else s'.landAll

/-- SAVE_ERASE_DONE (R184): the erase of a sector ends. A save that waits behind an aborted operation has
issued none. -/
def execSaveEraseDone (s : State) : Host.Outcome State Fault Refusal :=
  match s.save, s.abortedOp with
  | .erasing k, none =>
    if k + 1 < s.sectors then .next (s.saveGoesOn (.erasing (k + 1))) else .next (s.saveGoesOn (.writingBody 0))
  | _, _ => .next s

/-- SAVE_PAGE_PROGRAMMED (R184): the program of a page of the body ends. -/
def execSavePageProgrammed (s : State) : Host.Outcome State Fault Refusal :=
  match s.save with
  | .writingBody k =>
    if k + 1 < s.pages then .next (s.opEnds.saveGoesOn (.writingBody (k + 1)))
    else .next (s.opEnds.saveGoesOn .writingHeader)
  | _ => .next s

/-- SAVE_HEADER_PROGRAMMED (R184): the program of the header ends and the read-back begins. -/
def execSaveHeaderProgrammed (s : State) : Host.Outcome State Fault Refusal :=
  match s.save with
  | .writingHeader => .next (s.opEnds.saveGoesOn (.verifying []))
  | _ => .next s

/-- A read-back with a further answer, no longer than the image. -/
def State.readBack (s : State) (got : List Byte) (read : FlashAnswer) : List Byte :=
  (got ++ s.flash.answer read.failed got.length read.bytes).take s.image.length

/-- The whole image has been read back: the check of the body read back is compared with the check read
back, and the save ends (R184). -/
def State.endVerify (s : State) (whole : List Byte) : State :=
  if (crc (whole.drop 256)).toNat = u16 whole 10 then ({ s with stored := .valid }).endSave .ok
  else s.endSave .failedVerify

/-- SAVE_VERIFY_READ (R184): a part of the read-back is answered; a byte that differs from the image ends
the save with FAILED_VERIFY. -/
def execSaveVerifyRead (read : FlashAnswer) (s : State) : Host.Outcome State Fault Refusal :=
  match s.save with
  | .verifying got =>
    let whole := s.readBack got read
    if read.bytes = [] then .next s
    else if whole ≠ s.image.take whole.length then .next (s.endSave .failedVerify)
    else if whole.length < s.image.length then .next (s.saveGoesOn (.verifying whole))
    else .next (s.endVerify whole)
  | _ => .next s

/-- SAVE_FLASH_TIMEOUT (R184): an operation of the save has not ended within 1 s, or a save waiting behind an
aborted operation has waited 1 s (R185). -/
def execSaveFlashTimeout (s : State) : Host.Outcome State Fault Refusal :=
  match s.saving, s.flashTimer with
  | true, some t => .next ((s.elapseTo Config.flashTicks t).endSave .failedTimeout)
  | _, _ => .next s

/-- ABORTED_FLASH_OPERATION_END (R185): the operation ends on the flash; a save that waits behind it issues
its first operation, whose limit goes on counting from the SAVE. -/
def execAbortedFlashOperationEnd (s : State) : Host.Outcome State Fault Refusal :=
  match s.abortedOp with
  | none => .next s
  | some op =>
    let s' := { s with abortedOp := none, flash := s.flash.finish op }
    .next { s' with flash := s'.issue s'.save }

end Sys2Proof.Machine
end

