-- ==== Sys2Proof/Machine/TransferTables.lean ====
section
/-! DEFINITION. Transfer tables (08, 8.2): TABLE_WRITE, TABLE_READ and TABLE_COMMIT. -/

namespace Sys2Proof.Machine

/-- The greatest entry of the table a selector names: 65,535 for decode, 4,095 for encode (R120). -/
def tableTop (sel : Nat) : Nat := if sel = 0 then 65535 else 4095

/-- A list of numbers with a run written from a place on. -/
def writeEntries (table : List Nat) (start : Nat) : List Nat → List Nat
  | [] => table
  | x :: rest => writeEntries (table.set start x) (start + 1) rest

/-- A run of a table that TABLE_WRITE and TABLE_READ accept (R123, R124). -/
def tableRunOk (start count : Nat) : Bool := decide (1 ≤ count ∧ count ≤ 64 ∧ start + count ≤ 257)

/-- TABLE_WRITE's rule (R123): table selector, start, count, entries. -/
def answerTableWrite (_ : Port) (body : List Byte) (s : State) : Answer :=
  let sel := u8 body 0
  let start := u16 body 1
  let count := u8 body 3
  if decide (sel ≤ 4) && tableRunOk start count then
    let sent := entriesAt body 4 count
    let entries := sent.map (min (tableTop sel))
    adjusted { s with staged := s.staged.write sel (writeEntries (s.staged.table sel) start entries) }
      (decide (entries ≠ sent))
  else refuse s .invalid

/-- TABLE_WRITE. -/
def execTableWrite (p : Port) (tag : Byte) (body : List Byte) (s : State) : Host.Outcome State Fault Refusal :=
  s.request .tableWrite answerTableWrite p tag body

/-- The copy a selector names: 0 live, 1 staged (R124). -/
def State.tablesOf (s : State) : Nat → Option Tables
  | 0 => some s.live
  | 1 => some s.staged
  | _ => none

/-- TABLE_READ's rule (R124): table selector, copy selector, start, count. -/
def answerTableRead (_ : Port) (body : List Byte) (s : State) : Answer :=
  let sel := u8 body 0
  let start := u16 body 2
  let count := u8 body 4
  match s.tablesOf (u8 body 1) with
  | none => refuse s .invalid
  | some t =>
    if decide (sel ≤ 4) && tableRunOk start count then
      ⟨s, .done, be1 sel ++ be1 (u8 body 1) ++ be2 start ++ be1 count ++
        entryBytes (((t.table sel).drop start).take count)⟩
    else refuse s .invalid

/-- TABLE_READ. -/
def execTableRead (p : Port) (tag : Byte) (body : List Byte) (s : State) : Host.Outcome State Fault Refusal :=
  s.request .tableRead answerTableRead p tag body

/-- The index of the first entry below the one before it, the first entry of the list having index k
(R125). -/
def firstFall (k : Nat) : List Nat → Option Nat
  | x :: y :: rest => if y < x then some (k + 1) else firstFall (k + 1) (y :: rest)
  | _ => none

/-- TABLE_COMMIT's rule (R125): table selector. A refusal at step 3 carries the index (R170). -/
def answerTableCommit (_ : Port) (body : List Byte) (s : State) : Answer :=
  let sel := u8 body 0
  if s.saving then refuse s .busy
  else if 4 < sel then refuse s .invalid
  else
    match firstFall 0 (s.staged.table sel) with
    | some k => ⟨s, .invalid, be2 k⟩
    | none => done { s with live := s.live.write sel (s.staged.table sel) }

/-- TABLE_COMMIT. -/
def execTableCommit (p : Port) (tag : Byte) (body : List Byte) (s : State) : Host.Outcome State Fault Refusal :=
  s.request .tableCommit answerTableCommit p tag body

end Sys2Proof.Machine
end

