-- ==== Sys2Proof/Machine/Dispatch.lean ====
section
/-! DEFINITION. The meaning of every command, one arm per row of the table. -/

namespace Sys2Proof.Machine

/-- A command's effect on everything but the queue of waiting commands. -/
def exec (i : Instr) (s : State) : Host.Outcome State Fault Refusal :=
  match i with
  | .coldReset straps => Sys2Proof.Machine.execColdReset straps s
  | .flashIdentifyAnswered ident => Sys2Proof.Machine.execFlashIdentifyAnswered ident s
  | .headerReadAnswered read => Sys2Proof.Machine.execHeaderReadAnswered read s
  | .bodyReadAnswered read => Sys2Proof.Machine.execBodyReadAnswered read s
  | .startupFlashTimeout => Sys2Proof.Machine.execStartupFlashTimeout s
  | .framePeriodExpiry => Sys2Proof.Machine.execFramePeriodExpiry s
  | .followTimeout => Sys2Proof.Machine.execFollowTimeout s
  | .fadeSettle slot => Sys2Proof.Machine.execFadeSettle slot s
  | .holdTimeExpiry => Sys2Proof.Machine.execHoldTimeExpiry s
  | .sourceFrameStart opening interval showFirst => Sys2Proof.Machine.execSourceFrameStart opening interval showFirst s
  | .sourceFrameEnd lines => Sys2Proof.Machine.execSourceFrameEnd lines s
  | .sourceLoss => Sys2Proof.Machine.execSourceLoss s
  | .detectLineChange h level => Sys2Proof.Machine.execDetectLineChange h level s
  | .sinkDebounceExpiry h => Sys2Proof.Machine.execSinkDebounceExpiry h s
  | .presenceExpiry h => Sys2Proof.Machine.execPresenceExpiry h s
  | .claimLapse h => Sys2Proof.Machine.execClaimLapse h s
  | .packetReceived p bytes => Sys2Proof.Machine.execPacketReceived p bytes s
  | .receiveGapTimeout p => Sys2Proof.Machine.execReceiveGapTimeout p s
  | .brokenByte p => Sys2Proof.Machine.execBrokenByte p s
  | .lenOversize p len => Sys2Proof.Machine.execLenOversize p len s
  | .replySent p => Sys2Proof.Machine.execReplySent p s
  | .status p tag body => Sys2Proof.Machine.execStatus p tag body s
  | .noticeRead p tag body => Sys2Proof.Machine.execNoticeRead p tag body s
  | .noticeMask p tag body => Sys2Proof.Machine.execNoticeMask p tag body s
  | .restart p tag body => Sys2Proof.Machine.execRestart p tag body s
  | .outputSetup p tag body => Sys2Proof.Machine.execOutputSetup p tag body s
  | .outputStart p tag body => Sys2Proof.Machine.execOutputStart p tag body s
  | .outputStop p tag body => Sys2Proof.Machine.execOutputStop p tag body s
  | .headSetup p tag body => Sys2Proof.Machine.execHeadSetup p tag body s
  | .headQuery p tag body => Sys2Proof.Machine.execHeadQuery p tag body s
  | .headMode p tag body => Sys2Proof.Machine.execHeadMode p tag body s
  | .meshWrite p tag body => Sys2Proof.Machine.execMeshWrite p tag body s
  | .meshRead p tag body => Sys2Proof.Machine.execMeshRead p tag body s
  | .meshCommit p tag body => Sys2Proof.Machine.execMeshCommit p tag body s
  | .meshDiscard p tag body => Sys2Proof.Machine.execMeshDiscard p tag body s
  | .meshHold p tag body => Sys2Proof.Machine.execMeshHold p tag body s
  | .meshQuery p tag body => Sys2Proof.Machine.execMeshQuery p tag body s
  | .meshGenerate p tag body during => Sys2Proof.Machine.execMeshGenerate p tag body during s
  | .meshShift p tag body during => Sys2Proof.Machine.execMeshShift p tag body during s
  | .meshCopy p tag body during => Sys2Proof.Machine.execMeshCopy p tag body during s
  | .seamDefine p tag body => Sys2Proof.Machine.execSeamDefine p tag body s
  | .seamDelete p tag body => Sys2Proof.Machine.execSeamDelete p tag body s
  | .seamQuery p tag body => Sys2Proof.Machine.execSeamQuery p tag body s
  | .seamPin p tag body => Sys2Proof.Machine.execSeamPin p tag body s
  | .seamFades p tag body => Sys2Proof.Machine.execSeamFades p tag body s
  | .curveWrite p tag body => Sys2Proof.Machine.execCurveWrite p tag body s
  | .curveRead p tag body => Sys2Proof.Machine.execCurveRead p tag body s
  | .headState p tag body => Sys2Proof.Machine.execHeadState p tag body s
  | .presenceSetup p tag body => Sys2Proof.Machine.execPresenceSetup p tag body s
  | .tableWrite p tag body => Sys2Proof.Machine.execTableWrite p tag body s
  | .tableRead p tag body => Sys2Proof.Machine.execTableRead p tag body s
  | .tableCommit p tag body => Sys2Proof.Machine.execTableCommit p tag body s
  | .liftSet p tag body => Sys2Proof.Machine.execLiftSet p tag body s
  | .sourceQuery p tag body => Sys2Proof.Machine.execSourceQuery p tag body s
  | .holdSetup p tag body => Sys2Proof.Machine.execHoldSetup p tag body s
  | .layoutRead p tag body => Sys2Proof.Machine.execLayoutRead p tag body s
  | .layoutApply p tag body => Sys2Proof.Machine.execLayoutApply p tag body s
  | .save p tag body => Sys2Proof.Machine.execSave p tag body s
  | .saveEraseDone => Sys2Proof.Machine.execSaveEraseDone s
  | .savePageProgrammed => Sys2Proof.Machine.execSavePageProgrammed s
  | .saveHeaderProgrammed => Sys2Proof.Machine.execSaveHeaderProgrammed s
  | .saveVerifyRead read => Sys2Proof.Machine.execSaveVerifyRead read s
  | .saveFlashTimeout => Sys2Proof.Machine.execSaveFlashTimeout s
  | .abortedFlashOperationEnd => Sys2Proof.Machine.execAbortedFlashOperationEnd s

end Sys2Proof.Machine
end

