-- ==== Sys2Proof/Machine/Pixel.lean ====
section
/-! DEFINITION. The pixel computation (07) and the test patterns (8.4): what an Output Engine sends for a pixel of its
raster, as a function of its frame view. -/

namespace Sys2Proof.Machine

/-- A channel of a pixel. -/
inductive Channel where
  | r | g | b
deriving DecidableEq, Repr

/-- The value of a channel. -/
def onChannel (c : Rgb) : Channel → Nat
  | .r => c.r
  | .g => c.g
  | .b => c.b

/-- Three values given per channel. -/
def perChannel (f : Channel → Nat) : Rgb := ⟨f .r, f .g, f .b⟩

/-- A canvas position in sixteenths. -/
structure Position where
  u : Int
  v : Int
deriving DecidableEq, Repr

/-- Linear interpolation between two entries of a table: a + ((b - a) g + half) div d (R67, R109, R115). -/
def interpolate (a b g half d : Nat) : Nat := ((a : Int) + (((b : Int) - a) * g + half) / d).toNat

/-! ## S1: mesh interpolation (R102, R103, R104) -/

/-- The cell and the place within it of one coordinate of a pixel, on an axis with n nodes (R102). -/
def cellOf (s n x : Nat) : Nat × Nat := if x / s = n - 1 then (n - 2, s) else (x / s, x % s)

/-- The columns of the mesh grid of a view. -/
def FrameView.columns (w : FrameView) : Nat := (w.w - 1 + (w.s - 1)) / w.s + 1

/-- The rows of the mesh grid of a view. -/
def FrameView.rows (w : FrameView) : Nat := (w.h - 1 + (w.s - 1)) / w.s + 1

/-- Node (i, j) of the bank of a view. -/
def FrameView.node (w : FrameView) (i j : Nat) : Node := w.bank.getD (j * w.columns + i) ⟨0, 0, false⟩

/-- The weighted mean of the four corner values of a cell of size s, at the place (fx, fy) (R103). -/
def cellMean (s fx fy : Nat) (c00 c10 c01 c11 : Int) : Int :=
  (c00 * ((s : Int) - fx) * ((s : Int) - fy) + c10 * fx * ((s : Int) - fy) + c01 * ((s : Int) - fx) * fy +
    c11 * fx * fy + ((s * s / 2 : Nat) : Int)) / ((s * s : Nat) : Int)

/-- S1: the canvas position of pixel (x, y), none where one of its four nodes is not visible
(R102, R103, R104). -/
def FrameView.meshPosition (w : FrameView) (x y : Nat) : Option Position :=
  let (i, fx) := cellOf w.s w.columns x
  let (j, fy) := cellOf w.s w.rows y
  let a := w.node i j
  let b := w.node (i + 1) j
  let c := w.node i (j + 1)
  let d := w.node (i + 1) (j + 1)
  if a.visible && b.visible && c.visible && d.visible then
    some ⟨cellMean w.s fx fy a.u b.u c.u d.u, cellMean w.s fx fy a.v b.v c.v d.v⟩
  else none

/-! ## S2: canvas and tile (R105, R106) -/

/-- A position on the canvas (R105). -/
def Position.onCanvas (q : Position) : Bool := decide (0 ≤ q.u ∧ q.u ≤ 65520 ∧ 0 ≤ q.v ∧ q.v ≤ 36848)

/-- A position inside a tile (R106). -/
def Position.inTile (q : Position) (t : Tile) : Bool :=
  decide (16 * (t.x0 : Int) ≤ q.u ∧ q.u ≤ 16 * t.x1 ∧ 16 * (t.y0 : Int) ≤ q.v ∧ q.v ≤ 16 * t.y1)

/-- S1 and S2: the canvas position of a pixel, none where it is masked (R101). -/
def FrameView.position (w : FrameView) (x y : Nat) : Option Position :=
  match w.meshPosition x y with
  | none => none
  | some q => if q.onCanvas && q.inTile w.tile then some q else none

/-! ## S3 and S4: sampling (R107, R108) -/

/-- A pixel of a source frame. -/
def SourceFrame.pixel (f : SourceFrame) (x y : Nat) : Rgb := (f.lines.getD y []).getD x ⟨0, 0, 0⟩

/-- The bilinear sample of a source frame at a position on one channel (R107, R108). -/
def SourceFrame.sample (f : SourceFrame) (q : Position) (ch : Channel) : Nat :=
  let xs := q.u.toNat * f.size.w / 4096
  let ys := q.v.toNat * f.size.h / 2304
  let xi := xs / 16
  let ax := xs % 16
  let yi := ys / 16
  let ay := ys % 16
  let xr := min (xi + 1) (f.size.w - 1)
  let yl := min (yi + 1) (f.size.h - 1)
  (onChannel (f.pixel xi yi) ch * (16 - ax) * (16 - ay) + onChannel (f.pixel xr yi) ch * ax * (16 - ay) +
    onChannel (f.pixel xi yl) ch * (16 - ax) * ay + onChannel (f.pixel xr yl) ch * ax * ay + 128) / 256

/-- S3 and S4: the sample, 0 in the dark input states and with no SHOWN buffer (R108). -/
def FrameView.sample (w : FrameView) (q : Position) (ch : Channel) : Nat :=
  match w.source with
  | none => 0
  | some f => if w.input.dark then 0 else f.sample q ch

/-! ## S5: decode (R109) -/

/-- S5: a sample through a decode table. -/
def decodeStep (table : List Nat) (s : Nat) : Nat :=
  interpolate (table.getD (s / 16) 0) (table.getD (s / 16 + 1) 0) (s % 16) 8 16

/-! ## S6: weight (R67, R69, R70, R110, R111) -/

/-- The coordinate of a position along the axis of a seam. -/
def Position.along (q : Position) : Orientation → Int
  | .vertical => q.u
  | .horizontal => q.v

/-- The ramp value of a curve at t sixteenths into a band of width b - a (R67). -/
def rampValue (curve : List Nat) (width t : Nat) : Nat :=
  let r := t * 4096 / (16 * width)
  if r = 4096 then curve.getD 64 0
  else interpolate (curve.getD (r / 64) 0) (curve.getD (r / 64 + 1) 0) (r % 64) 32 64

/-- The target value of the rising head in a mode, at a point with ramp value c (R69). -/
def SeamMode.value (c : Nat) : SeamMode → Nat
  | .shared => c
  | .soloRising => 4096
  | .soloFalling => 0

/-- The factor of the rising head at a point with ramp value c (R69, R70). -/
def SeamLook.risingFactor (k : SeamLook) (c : Nat) : Nat :=
  match k.fade with
  | none => k.mode.value c
  | some f => (f.src.value c * (f.n - f.k) + f.dst.value c * f.k) / f.n

/-- A seam counts for the lift when it is SHARED or fading (R113). -/
def SeamLook.counts (k : SeamLook) : Bool := k.fade.isSome || decide (k.mode = .shared)

/-- The band of a seam holds a coordinate (R110). -/
def SeamGeometry.holds (g : SeamGeometry) (q : Int) : Bool := decide (16 * (g.a : Int) ≤ q ∧ q ≤ 16 * g.b)

/-- The ramp value of a seam at a coordinate of its band (R67). -/
def SeamGeometry.ramp (g : SeamGeometry) (curves : Curves) (q : Int) : Nat :=
  rampValue (curves.curve g.curve) (g.b - g.a) (q - 16 * g.a).toNat

/-- The factor a seam gives to one of its heads at a coordinate of its band (R69, R110). -/
def SeamGeometry.factor (g : SeamGeometry) (k : SeamLook) (curves : Curves) (h : Head) (q : Int) : Nat :=
  let f := k.risingFactor (g.ramp curves q)
  if g.rising = h then f else 4096 - f

/-- What a slot gives the pixel at a position: the factor for the head and whether it counts for the lift,
if its seam contains the pixel (R110). -/
def FrameView.share (w : FrameView) (q : Position) (sl : Slot) : Option (Nat × Bool) :=
  match w.geometry.get sl, w.looks.get sl with
  | some g, some k =>
    if g.names w.head && g.holds (q.along g.orientation) then
      some (g.factor k w.curves w.head (q.along g.orientation), k.counts)
    else none
  | _, _ => none

/-- The factors and counts of the seams that contain the pixel at a position. -/
def FrameView.shares (w : FrameView) (q : Position) : List (Nat × Bool) := Idx4.all.filterMap (w.share q)

/-- The weight of the factors of the containing seams: 4,096, the factor, or the product truncated. By R58
there are at most two (R111). -/
def weightOf : List Nat → Nat
  | [] => 4096
  | [f] => f
  | f :: g :: _ => f * g / 4096

/-- S6: the weight of the pixel at a position (R111). -/
def FrameView.weight (w : FrameView) (q : Position) : Nat := weightOf ((w.shares q).map (·.1))

/-- The count of containing seams that are SHARED or fading (R110, R113). -/
def FrameView.count (w : FrameView) (q : Position) : Nat := (w.shares q).countP (·.2)

/-! ## S7 and S8: attenuation and lift (R112, R113, R114) -/

/-- S7: the linear value attenuated by the weight (R112). -/
def attenuate (lin w : Nat) : Nat := (lin * w + 2048) / 4096

/-- The lift of a channel by the count (R113). -/
def FrameView.lift (w : FrameView) (n : Nat) (ch : Channel) : Nat :=
  match n with
  | 0 => onChannel w.lift0 ch
  | 1 => onChannel w.lift1 ch
  | _ => 0

/-- S8: the lift added, none at weight 0 (R114). -/
def liftStep (l w lw : Nat) : Nat := if w = 0 then 0 else l + (lw * (65535 - l) + 32767) / 65535

/-! ## S9: encode and depth (R115, R116) -/

/-- S9, first half: a linear value through an encode table (R115). -/
def encodeStep (table : List Nat) (lo : Nat) : Nat :=
  interpolate (table.getD (lo / 256) 0) (table.getD (lo / 256 + 1) 0) (lo % 256) 128 256

/-- S9, second half: the depth step (R116). -/
def depthStep (d : Depth) (code : Nat) : Nat :=
  match d with
  | .d12 => code
  | .d10 => min 1023 ((code + 2) / 4)
  | .d8 => min 255 ((code + 8) / 16)

/-- S9 of a view. -/
def FrameView.send (w : FrameView) (lo : Nat) : Nat := depthStep w.depth (encodeStep w.encode lo)

/-! ## The pixel of a head (R101, R130 to R134) -/

/-- S5 to S9 on a sample of each channel. -/
def FrameView.finish (w : FrameView) (q : Position) (sample : Channel → Nat) : Rgb :=
  let weight := w.weight q
  let n := w.count q
  perChannel fun ch =>
    w.send (liftStep (w.lift n ch) weight (attenuate (decodeStep w.decode (sample ch)) weight))

/-- A code on all three channels through the depth step alone. -/
def FrameView.raw (w : FrameView) (code : Nat) : Rgb := perChannel fun _ => depthStep w.depth code

/-- A pixel that is masked or black. -/
def blackPixel : Rgb := ⟨0, 0, 0⟩

/-- Some node of an axis with n nodes at steps of s stands within one pixel of x (R132). -/
def nearNode (s n x : Nat) : Bool :=
  (decide (x % s ≤ 1) && decide (x / s < n)) || (decide (x % s = s - 1) && decide (x / s + 1 < n))

/-- What a pattern sends for pixel (x, y) (R130 to R134). -/
def FrameView.patternPixel (w : FrameView) (x y : Nat) : Pattern → Rgb
  | .rawFlat c => perChannel fun ch => depthStep w.depth (onChannel c ch)
  | .rawGrid l => w.raw (if x % w.s = 0 ∨ y % w.s = 0 ∨ x = w.w - 1 ∨ y = w.h - 1 then l else 0)
  | .rawDots l => w.raw (if nearNode w.s w.columns x && nearNode w.s w.rows y then l else 0)
  | .canvasGrid spacing l =>
    match w.position x y with
    | none => blackPixel
    | some q =>
      w.finish q fun _ => if q.u.toNat / 16 % spacing = 0 ∨ q.v.toNat / 16 % spacing = 0 then l else 0
  | .weightView =>
    match w.position x y with
    | none => blackPixel
    | some q => perChannel fun _ => w.send (w.weight q * 65535 / 4096)

/-- What a LIVE head sends for pixel (x, y), through S1 to S9. -/
def FrameView.livePixel (w : FrameView) (x y : Nat) : Rgb :=
  match w.position x y with
  | none => blackPixel
  | some q => w.finish q (w.sample q)

/-- The output values of pixel (x, y) of a frame (R100, R101). -/
def FrameView.pixel (w : FrameView) (x y : Nat) : Rgb :=
  if w.enabled = false then blackPixel
  else
    match w.mode with
    | .muted => blackPixel
    | .pattern p => w.patternPixel x y p
    | .live => w.livePixel x y

/-- The frame of a view as its head's link carries it: the lines y = 0 to H - 1, each from x = 0 to W - 1
(00, The output raster; R100). -/
def FrameView.raster (w : FrameView) : List (List Rgb) :=
  (List.range w.h).map fun y => (List.range w.w).map fun x => w.pixel x y

/-- The frame the output link of a head carries; none where it carries no video (R4, R100). -/
def State.outputFrame (s : State) (h : Head) : Option (List (List Rgb)) := (s.views.get h).map FrameView.raster

/-- What the output link of a head carries at pixel (x, y); none where it carries no video, and outside the
raster (R4, R100). -/
def State.outputPixel (s : State) (h : Head) (x y : Nat) : Option Rgb :=
  match s.views.get h with
  | none => none
  | some w => if x < w.w ∧ y < w.h then some (w.pixel x y) else none

end Sys2Proof.Machine
end

