-- ==== Sys2Proof/Safety.lean ====
section
/-! DEFINITION. What a safe run keeps: the laws the manual states of the whole part, in the terms the statements use. -/

namespace Sys2Proof

/-! ## Commands as requests -/

/-- The command of a request kind; a long mesh operation with nothing arriving while its chunk runs. -/
def Kind.command (k : Kind) (p : Port) (tag : Byte) (body : List Byte) : Instr :=
  match k with
  | .status => .status p tag body
  | .noticeRead => .noticeRead p tag body
  | .noticeMask => .noticeMask p tag body
  | .restart => .restart p tag body
  | .outputSetup => .outputSetup p tag body
  | .outputStart => .outputStart p tag body
  | .outputStop => .outputStop p tag body
  | .headSetup => .headSetup p tag body
  | .headQuery => .headQuery p tag body
  | .headMode => .headMode p tag body
  | .meshWrite => .meshWrite p tag body
  | .meshRead => .meshRead p tag body
  | .meshCommit => .meshCommit p tag body
  | .meshDiscard => .meshDiscard p tag body
  | .meshHold => .meshHold p tag body
  | .meshQuery => .meshQuery p tag body
  | .meshGenerate => .meshGenerate p tag body []
  | .meshShift => .meshShift p tag body []
  | .meshCopy => .meshCopy p tag body []
  | .seamDefine => .seamDefine p tag body
  | .seamDelete => .seamDelete p tag body
  | .seamQuery => .seamQuery p tag body
  | .seamPin => .seamPin p tag body
  | .seamFades => .seamFades p tag body
  | .curveWrite => .curveWrite p tag body
  | .curveRead => .curveRead p tag body
  | .headState => .headState p tag body
  | .presenceSetup => .presenceSetup p tag body
  | .tableWrite => .tableWrite p tag body
  | .tableRead => .tableRead p tag body
  | .tableCommit => .tableCommit p tag body
  | .liftSet => .liftSet p tag body
  | .sourceQuery => .sourceQuery p tag body
  | .holdSetup => .holdSetup p tag body
  | .layoutRead => .layoutRead p tag body
  | .layoutApply => .layoutApply p tag body
  | .save => .save p tag body

/-- A port that may speak for a head: the alignment port, or the head's own port (R166). -/
def Port.speaksFor (p : Port) (h : Head) : Prop := p = .ap ∨ p = .head h

end Sys2Proof

namespace Sys2Proof.Machine

/-! ## Requests -/

/-- The bytes of a request packet (R162). -/
def requestWire (tag kind : Byte) (body : List Byte) : List Byte :=
  0xA5 :: (be1 body.length ++ [tag, kind] ++ body) ++ be2 (crc (be1 body.length ++ [tag, kind] ++ body)).toNat

/-- The Executor has this request in hand, carrying it out (R169). -/
def State.hasInHand (s : State) (k : Kind) (p : Port) (tag : Byte) (body : List Byte) : Prop :=
  s.inHand = some ⟨p, tag, k.code, body⟩

/-- A number fits in two bytes. -/
def fits2 (n : Nat) : Prop := n < 65536

/-- A signed number fits in three bytes (R162). -/
def fits3 (i : Int) : Prop := -8388608 ≤ i ∧ i < 8388608

/-- A port that may edit the meshes of a head: the alignment port, or the head's own port while the head is
not held (R22). -/
def State.mayEdit (s : State) (p : Port) (h : Head) : Prop :=
  p = .ap ∨ (p = .head h ∧ (s.heads.get h).hold = false)

/-- A notice kind is added to all five notice sets (R172), and nothing else changes. -/
def State.withNotices (s : State) (n : NoticeSet) : State :=
  { s with ports := s.ports.map fun q => { q with notices := q.notices ||| n } }

/-- The ports of t are those of s, with the kinds whose numbers a test holds for added to all five notice sets
(R172). -/
def State.noticed (s t : State) (raised : Nat → Prop) : Prop :=
  ∀ p, t.ports.get p = { s.ports.get p with notices := (t.ports.get p).notices } ∧
    ∀ k, k < 19 →
      ((t.ports.get p).notices.getLsbD k = true ↔ (s.ports.get p).notices.getLsbD k = true ∨ raised k)

/-! ## Request Queue, Executor and reply buffers (11) -/

/-- The queue's bounds: 12 entries, 1,536 body bytes, 4 entries from one port (R167). -/
def State.queueLawful (s : State) : Prop :=
  s.queue.length ≤ 12 ∧ s.queueBytes ≤ 1536 ∧ ∀ p, s.queue.countP (fun e => e.port == p) ≤ 4

/-- The room set aside in a port's reply buffer is always there (R168). -/
def State.roomLawful (s : State) : Prop := ∀ p, (s.ports.get p).held + s.aside p ≤ 1280

/-- A free Executor has no entry it may take (R169). -/
def State.executorLawful (s : State) : Prop :=
  s.inHand = none → ∀ e ∈ s.queue, s.freeRoom e.port < 240

/-! ## Seams (04, 05) -/

/-- The law of one seam: settled with mode equal to target, or, while RUNNING, fading with k below N from
its mode to its target, which differ (R79, R82). -/
def Seam.lawful (running : Bool) (q : Seam) : Prop :=
  match q.fade with
  | none => q.mode = q.target
  | some f => running = true ∧ f.k < f.n ∧ f.src = q.mode ∧ f.dst = q.target ∧ f.src ≠ f.dst

/-- The law of the fades (R79, R82). -/
def State.fadesLawful (s : State) : Prop := ∀ sl q, s.seams.get sl = some q → q.lawful s.running

/-- The geometry of a seam is one that step 3 of R57 passes (R55). -/
def SeamGeometry.shaped (g : SeamGeometry) : Prop :=
  g.falling ≠ g.rising ∧ g.curve ≤ 7 ∧ g.a + 16 ≤ g.b ∧ g.b ≤ g.a + 1024

/-- Two bands overlap (R57): a ≤ b' and a' ≤ b. -/
def SeamGeometry.overlaps (g k : SeamGeometry) : Prop := g.a ≤ k.b ∧ k.a ≤ g.b

/-- The law of the bands: inside both heads' tiles along the axis, and apart from every other band of the
same orientation that shares a head (R58). -/
def State.bandsLawful (s : State) : Prop :=
  ∀ sl q, s.seams.get sl = some q →
    q.geo.shaped ∧
    (∀ h, q.geo.names h = true → q.geo.inTile (s.heads.get h).tile = true) ∧
    ∀ sl' q', sl' ≠ sl → s.seams.get sl' = some q' → q'.geo.orientation = q.geo.orientation →
      (∃ h, q.geo.names h = true ∧ q'.geo.names h = true) → ¬ q.geo.overlaps q'.geo

/-! ## Presence and contribution (06) -/

/-- Every contribution is what the four inputs give (R93). -/
def State.contributionsLawful (s : State) : Prop :=
  ∀ h, (s.monitor.get h).contributes = true ↔
    (s.heads.get h).enabled = true ∧ (s.monitor.get h).sink = true ∧ (s.monitor.get h).light = .on ∧
      ((s.monitor.get h).presence = .notWatched ∨ ∃ t, (s.monitor.get h).presence = .present t)

/-- A debounce timer runs exactly while the line differs from the sink state (R84, R91), and a head is not
watched exactly while its period is OFF (R88, R98). -/
def State.monitorsLawful (s : State) : Prop :=
  ∀ h, ((s.monitor.get h).debounce = none ↔ (s.monitor.get h).line = (s.monitor.get h).sink) ∧
    ((s.monitor.get h).presence = .notWatched ↔ (s.heads.get h).period = .off)

/-! ## Meshes (02) -/

/-- While STOPPED with no save in flight no commit is pending (R32, R33). -/
def State.landingsLawful (s : State) : Prop :=
  s.running = false → s.saving = false → ∀ h, (s.mesh.get h).commitPending = false

/-- Both banks of every head hold one node for each node of the grid, each in its range (R3, R20, 2.1). -/
def State.banksLawful (s : State) : Prop :=
  ∀ h, (s.mesh.get h).active.length = s.setup.nodes ∧ (s.mesh.get h).staged.length = s.setup.nodes ∧
    (∀ n ∈ (s.mesh.get h).active, n.ok = true) ∧ ∀ n ∈ (s.mesh.get h).staged, n.ok = true

/-- A claim and a lapse record never stand together (R26). -/
def State.claimsLawful (s : State) : Prop := ∀ h, (s.mesh.get h).claim ≠ none → (s.mesh.get h).lapse = none

/-! ## Curves, tables, buffers, settings (04, 08, 09, 01) -/

/-- Curves 3 to 7 keep their law (R62). -/
def State.curvesLawful (s : State) : Prop := ∀ n, 3 ≤ n → n ≤ 7 → curveOk (s.curves.curve n) = true

/-- A table has 257 entries up to a top (R120). -/
def tableFits (top : Nat) (l : List Nat) : Prop := l.length = 257 ∧ ∀ x ∈ l, x ≤ top

/-- The law of the transfer tables: sizes and ranges of both copies, and no live table decreases (R120). -/
def State.tablesLawful (s : State) : Prop :=
  ∀ sel, sel ≤ 4 → tableFits (tableTop sel) (s.live.table sel) ∧ tableFits (tableTop sel) (s.staged.table sel) ∧
    nonDecreasing (s.live.table sel) = true

/-- A frame a buffer holds: a supported size, with its lines, all codes within 12 bits (R137, R138, R145). -/
def SourceFrame.lawful (f : SourceFrame) : Prop :=
  f.size.supported = true ∧ f.lines.length = f.size.h ∧
    ∀ l ∈ f.lines, l.length = f.size.w ∧ ∀ c ∈ l, c.r < 4096 ∧ c.g < 4096 ∧ c.b < 4096

/-- A buffer that holds a frame holds a lawful one. -/
def Buffer.lawful : Buffer → Prop
  | .free => True
  | .filling _ => True
  | .ready f => f.lawful
  | .shown f => f.lawful

/-- The three buffers as a list. -/
def Buffers.toList (b : Buffers) : List Buffer := [b.b0, b.b1, b.b2]

/-- A buffer is SHOWN. -/
def Buffer.isShown : Buffer → Bool
  | .shown _ => true
  | _ => false

/-- The law of the buffers: at most one FILLING, one READY, one SHOWN (R145), each frame lawful. -/
def State.buffersLawful (s : State) : Prop :=
  s.buffers.toList.countP Buffer.isFilling ≤ 1 ∧ s.buffers.toList.countP Buffer.isReady ≤ 1 ∧
    s.buffers.toList.countP Buffer.isShown ≤ 1 ∧ ∀ b ∈ s.buffers.toList, b.lawful

/-- The counters stay within 65,535 (R148). -/
def State.countersLawful (s : State) : Prop := s.dropped ≤ 65535 ∧ s.repeated ≤ 65535 ∧ s.broken ≤ 65535

/-- A head record within its ranges (R14, R127, R129). -/
def HeadRecord.lawful (r : HeadRecord) : Prop :=
  r.tile.ok = true ∧ liftOk r.lift0 = true ∧ liftOk r.lift1 = true ∧
    ∀ p, r.mode = .pattern p → p.clamp = p

/-- The settings stay within their ranges (R2, R14, R127, R129, R139). -/
def State.settingsLawful (s : State) : Prop :=
  (640 ≤ s.setup.w ∧ s.setup.w ≤ 4096 ∧ 360 ≤ s.setup.h ∧ s.setup.h ≤ 2304 ∧ (s.setup.s = 64 ∨ s.setup.s = 128)) ∧
    (∀ h, (s.heads.get h).lawful) ∧ s.source.holdTime ≤ 600 ∧ s.source.runCount ≤ 1

/-! ## The flash, the cold start and the views (12, 07) -/

/-- The flash area has 512 pages of 256 bytes (R178). -/
def State.flashLawful (s : State) : Prop := s.flash.pages.length = 512

/-- What a read of the flash from an offset on returns where its event brings these bytes: an erased byte reads
0xFF, a programmed one as it was programmed unless the flash has failed, any other as brought (R178, R185,
log 37). -/
def Flash.returns (f : Flash) (failed : Bool) (offset : Nat) (brought got : List Byte) : Prop :=
  got.length = brought.length ∧ ∀ i b, brought[i]? = some b →
    let page := f.page ((offset + i) / 256)
    (page = .unknown → got[i]? = some b) ∧
    (page = .erased → got[i]? = some 0xFF) ∧
    ∀ l, page = .programmed l →
      (∀ c, l[(offset + i) % 256]? = some c → got[i]? = some (if failed then b else c)) ∧
      (l.length ≤ (offset + i) % 256 → got[i]? = some 0xFF)

/-- During the cold start nothing is queued or in hand, no save is in flight and the output is STOPPED; the
code is 0x01 and an operation of the flash is under way (R165, R179). -/
def State.coldStartLawful (s : State) : Prop :=
  s.started = false →
    s.queue = [] ∧ s.inHand = none ∧ s.saving = false ∧ s.running = false ∧ s.startCode = 0x01 ∧
      s.flashTimer ≠ none

/-- While STOPPED no engine holds a frame view, and while one does every engine does (R99, R100). -/
def State.viewsLawful (s : State) : Prop :=
  (s.running = false → ∀ h, s.views.get h = none) ∧ ∀ h k, s.views.get h = none → s.views.get k = none

/-- An image whose items are within the widths and ranges of R178 and R180. -/
def Image.lawful (m : Image) : Prop :=
  (640 ≤ m.setup.w ∧ m.setup.w ≤ 4096 ∧ 360 ≤ m.setup.h ∧ m.setup.h ≤ 2304 ∧ (m.setup.s = 64 ∨ m.setup.s = 128)) ∧
    (∀ h, (m.heads.get h).lawful) ∧ (∀ h, (m.banks.get h).length = m.setup.nodes) ∧
    (∀ sl q, m.seams.get sl = some q → q.geo.shaped ∧ q.nOut < 256 ∧ q.nIn < 256) ∧
    (∀ sel, sel ≤ 4 → tableFits (tableTop sel) (m.tables.table sel)) ∧ m.ok = true

/-! ## Safety -/

/-- A state that no command can stop: exec answers a next state for every command. -/
def State.neverStops (s : State) : Prop := ∀ c, ∃ t, exec c s = .next t

end Sys2Proof.Machine
end

