-- ==== Sys2Proof/Certificates/Slice0/Obligations.lean ====
section
/-! DEFINITION. The statements for the provers. Where a statement says that a request is answered, the reply enters as
`State.answered` says, which Obligations.AnsweredTakesNext states in full; where a request is carried out on a head
its owner's lapse timer restarts (`State.touch`, log 17). -/

open Sys2Proof Sys2Proof.Machine

/-! ## Steps, reset -/

/-- A step runs the command at the front of the queue. -/
def Obligations.FrontCommandRuns : Prop :=
  ∀ (c : Instr) (rest : List Instr) (s : State),
    step { s with pending := c :: rest } = exec c { s with pending := rest }

/-- On an empty queue a step is one tick, a third of a microsecond: every running timer has run one tick
longer and nothing else changes. MODEL'S CHOICE: log 1. -/
def Obligations.EmptyQueueTick : Prop :=
  ∀ s : State, s.pending = [] → ∃ t, step s = .next t ∧
    t = { s with
      timing := t.timing
      monitor := t.monitor
      mesh := t.mesh
      source := { s.source with lossTimer := s.source.lossTimer.map (· + 1) }
      ports := t.ports
      flashTimer := s.flashTimer.map (· + 1) } ∧
    (s.timing = .stopped → t.timing = .stopped) ∧
    (∀ p f e, s.timing = .running p f e → t.timing = .running p f (e + 1)) ∧
    (∀ h, t.monitor.get h = { s.monitor.get h with
        presence := (t.monitor.get h).presence
        debounce := (s.monitor.get h).debounce.map (· + 1) } ∧
      (∀ n, (s.monitor.get h).presence = .present n → (t.monitor.get h).presence = .present (n + 1)) ∧
      ((∀ n, (s.monitor.get h).presence ≠ .present n) →
        (t.monitor.get h).presence = (s.monitor.get h).presence)) ∧
    (∀ h, t.mesh.get h = { s.mesh.get h with
        claim := if (s.mesh.get h).commitPending then (s.mesh.get h).claim
          else (s.mesh.get h).claim.map fun c => ⟨c.owner, c.timer + 1⟩ }) ∧
    ∀ p, t.ports.get p = { s.ports.get p with assembler := (t.ports.get p).assembler } ∧
      ((s.ports.get p).assembler = .hunt → (t.ports.get p).assembler = .hunt) ∧
      ∀ l g, (s.ports.get p).assembler = .packet l g → (t.ports.get p).assembler = .packet l (g + 1)

/-- The cold-reset value of every block. -/
def Obligations.ResetValues : Prop :=
  let s := State.reset
  s.setup = ⟨3840, 2160, 64, .source, true⟩ ∧ s.timing = .stopped ∧ s.measured = none ∧
    (∀ h, s.heads.get h =
      ⟨decide (h = .i0), ⟨0, 4095, 0, 2303⟩, .d12, .live, ⟨0, 0, 0⟩, ⟨0, 0, 0⟩, false, .off⟩) ∧
    (∀ h, (s.monitor.get h).presence = .notWatched ∧ (s.monitor.get h).light = .on ∧
      (s.monitor.get h).sink = false ∧ (s.monitor.get h).contributes = false) ∧
    (∀ h, s.mesh.get h = ⟨flatMesh s.setup (s.heads.get h).tile, flatMesh s.setup (s.heads.get h).tile,
      none, false, none⟩) ∧
    s.setup.nodes = 2135 ∧ (∀ sl, s.seams.get sl = none) ∧
    (∀ n, 3 ≤ n → n ≤ 7 → s.curves.curve n = (List.range 65).map (64 * ·)) ∧
    s.live.decode = (List.range 257).map (fun k => k ^ 2 * 65535 / 65536) ∧
    (∀ h, s.live.encode.get h = (List.range 257).map (fun k => min 4095 (Nat.sqrt (65536 * k)))) ∧
    s.staged = s.live ∧ (∀ h, s.views.get h = none) ∧
    s.source = ⟨.noSignal, none, 0, none, 0, 120, none, none, none, false⟩ ∧
    s.buffers = ⟨.free, .free, .free⟩ ∧ s.dropped = 0 ∧ s.repeated = 0 ∧ s.broken = 0 ∧
    (∀ p, s.ports.get p = ⟨.hunt, [], 0, BitVec.allOnes 19⟩ ∧ s.attention p = false) ∧
    s.queue = [] ∧ s.inHand = none ∧ s.startCode = 0x01 ∧ s.save = .idle

/-- The state after reset meets every law that the statements below say each step keeps. -/
def Obligations.ResetMeetsLaws : Prop :=
  let s := State.reset
  s.queueLawful ∧ s.roomLawful ∧ s.executorLawful ∧ s.coldStartLawful ∧ s.contributionsLawful ∧
    s.monitorsLawful ∧ s.landingsLawful ∧ s.banksLawful ∧ s.claimsLawful ∧ s.fadesLawful ∧ s.bandsLawful ∧
    s.tablesLawful ∧ s.curvesLawful ∧ s.countersLawful ∧ s.settingsLawful ∧ s.buffersLawful ∧ s.viewsLawful ∧
    s.flashLawful

/-! ## Ports, queue and Executor -/

/-- A request command that is not in hand comes in as a well-formed packet on a port whose assembler hunts or has
waited more than 20 ms, and is carried out at once if the Executor was free and takes it. MODEL'S CHOICE: log 4. -/
def Obligations.RequestComesIn : Prop :=
  ∀ (k : Kind) (p : Port) (tag : Byte) (body : List Byte) (s u : State), ¬ s.hasInHand k p tag body →
    let hunts := (s.ports.get p).assembler = .hunt ∨ ∃ l g, (s.ports.get p).assembler = .packet l g ∧ 60000 < g
    (hunts ∧ body.length ≤ 240 → u = ({ s with
      ports := s.ports.set p { s.ports.get p with assembler := .hunt } }).packetArrives p tag k.code body) →
    (¬ (hunts ∧ body.length ≤ 240) → u = s) →
    (s.inHand = none ∧ u.hasInHand k p tag body → exec (k.command p tag body) s = exec (k.command p tag body) u) ∧
      (¬ (s.inHand = none ∧ u.hasInHand k p tag body) → exec (k.command p tag body) s = .next u)

/-- PACKET_RECEIVED with the bytes of one whole packet on a hunting port: a good check delivers the packet, a
bad one answers CHECKFAIL at once with the TAG as received. -/
def Obligations.PacketAssembled : Prop :=
  ∀ (p : Port) (tag kind : Byte) (body : List Byte) (s : State),
    (s.ports.get p).assembler = .hunt → body.length ≤ 240 →
    exec (.packetReceived p (requestWire tag kind body)) s = .next (s.packetArrives p tag kind body) ∧
      ∀ hi lo : Byte, hi.toNat * 256 + lo.toNat ≠ (crc (be1 body.length ++ [tag, kind] ++ body)).toNat →
        exec (.packetReceived p (0xA5 :: (be1 body.length ++ [tag, kind] ++ body) ++ [hi, lo])) s =
          .next (s.immediate p tag .checkfail)

/-- What a well-formed packet does: the claims' timers restart and a head port is heard, to PRESENT with its timer
at 0 unless it is not watched; then the first test that applies decides between an immediate reply and
admission. -/
def Obligations.PacketArrival : Prop :=
  ∀ (p : Port) (tag kind : Byte) (body : List Byte) (s u : State),
    let v := { s with mesh := Quad.ofFn fun h =>
      if (s.mesh.get h).claim.map Claim.owner = some p ∧ (s.mesh.get h).commitPending = false then
        { s.mesh.get h with claim := some ⟨p, 0⟩ } else s.mesh.get h }
    let heard := fun k : Head =>
      { v with monitor := v.monitor.set k { v.monitor.get k with presence := .present 0 } }
    (p = .ap → u = v) →
    (∀ k, p = .head k → (s.monitor.get k).presence = .notWatched → u = v) →
    (∀ k n, p = .head k → (s.monitor.get k).presence = .present n → u = heard k) →
    (∀ k, p = .head k → (s.monitor.get k).presence = .absent ∨ (s.monitor.get k).presence = .lost →
      u = (heard k).rederive k) →
    let room := u.queue.length < 12 ∧ u.queueBytes + body.length ≤ 1536 ∧
      u.queue.countP (fun e => e.port == p) < 4 ∧ 6 ≤ u.freeRoom p
    (s.started = false → s.packetArrives p tag kind body = u.immediate p tag .wait) ∧
    (s.started = true → (∀ k : Kind, k.code ≠ kind) →
      s.packetArrives p tag kind body = u.immediate p tag .unknown) ∧
    (∀ k : Kind, s.started = true → k.code = kind → body.length ≠ k.bodyLength body →
      s.packetArrives p tag kind body = u.immediate p tag .malformed) ∧
    (∀ k : Kind, s.started = true → k.code = kind → body.length = k.bodyLength body →
      (room → s.packetArrives p tag kind body = ({ u with queue := u.queue ++ [Entry.mk p tag kind body] }).takeNext) ∧
      (¬ room → s.packetArrives p tag kind body = u.immediate p tag .wait)) ∧
    ∀ st, (6 ≤ u.freeRoom p → u.immediate p tag st = u.enter p ⟨tag, st, []⟩) ∧
      (u.freeRoom p < 6 → u.immediate p tag st = u)

/-- The other events of a port's lines: a gap, a broken byte or an oversize LEN inside a packet leaves the
assembler hunting and answers nothing, and a byte that comes after a gap of more than 20 ms is examined as in HUNT;
a reply that has been sent leaves its buffer and the Executor looks again.
Time passes to the due moment: log 2. -/
def Obligations.PortLines : Prop :=
  (∀ p l g s, (s.ports.get p).assembler = .packet l g →
    let u := s.elapse (60001 - g)
    exec (.receiveGapTimeout p) s =
      .next { u with ports := u.ports.set p { u.ports.get p with assembler := .hunt } }) ∧
  (∀ p l g (b : Byte) s, (s.ports.get p).assembler = .packet l g → 60000 < g →
    exec (.packetReceived p [b]) s = .next { s with
      ports := s.ports.set p { s.ports.get p with assembler := if b = 0xA5 then .packet [] 0 else .hunt } }) ∧
  (∀ p s, exec (.brokenByte p) s =
    .next { s with ports := s.ports.set p { s.ports.get p with assembler := .hunt } }) ∧
  (∀ p g s (len : Byte), (s.ports.get p).assembler = .packet [] g → 240 < len.toNat →
    exec (.lenOversize p len) s =
      .next { s with ports := s.ports.set p { s.ports.get p with assembler := .hunt } }) ∧
  ∀ p r rest s, (s.ports.get p).replies = r :: rest →
    exec (.replySent p) s = .next ({ s with ports := s.ports.set p { s.ports.get p with replies := rest } }).takeNext

/-- What an answered request does: the reply stands at the end of its port's buffer, and the Executor, free
again, takes the oldest entry whose port has 240 bytes of free room, or none. The restart of the owner's
lapse timer touches one claim alone. -/
def Obligations.AnsweredTakesNext : Prop :=
  (∀ (p : Port) (r : Reply) (s : State),
    let u := { s with
      inHand := none
      ports := s.ports.set p { s.ports.get p with replies := (s.ports.get p).replies ++ [r] } }
    (s.answered p r = u ∧ ∀ e ∈ s.queue, u.freeRoom e.port < 240) ∨
    ∃ before e after, s.queue = before ++ e :: after ∧ (∀ x ∈ before, u.freeRoom x.port < 240) ∧
      240 ≤ u.freeRoom e.port ∧ s.answered p r = { u with queue := before ++ after, inHand := some e }) ∧
  ∀ (p : Port) (h : Head) (s : State), s.touch (some h) p = { s with mesh := s.mesh.set h <|
    (if (s.mesh.get h).claim.map Claim.owner = some p ∧ (s.mesh.get h).commitPending = false
      then { s.mesh.get h with claim := some ⟨p, 0⟩ } else s.mesh.get h) }

/-- A head port without authority for a request is answered DENIED, and nothing else changes. -/
def Obligations.UnauthorisedDenied : Prop :=
  ∀ (k : Kind) (j : Head) (tag : Byte) (body : List Byte) (s : State), s.hasInHand k (.head j) tag body →
    (k ∈ [Kind.restart, .outputSetup, .outputStart, .outputStop, .headSetup, .meshHold, .seamDefine, .seamDelete,
        .seamPin, .seamFades, .curveWrite, .presenceSetup, .tableWrite, .tableCommit, .liftSet, .holdSetup,
        .layoutApply, .save] ∨
      (k ∈ [Kind.headMode, .headState, .meshWrite, .meshCommit, .meshDiscard, .meshGenerate, .meshShift, .meshCopy] ∧
        u8 body 0 ≠ j.toNat) ∨
      (k ∈ [Kind.meshWrite, .meshCommit, .meshDiscard, .meshGenerate, .meshShift, .meshCopy] ∧
        (s.heads.get j).hold = true) ∨
      (k = .meshDiscard ∧ u8 body 1 ≠ 0) ∨ (k = .sourceQuery ∧ u8 body 0 ≠ 0)) →
    exec (k.command (.head j) tag body) s = .next (s.answered (.head j) ⟨tag, .denied, []⟩)

/-- While a save is in flight the requests that would change saved state, and SAVE, are answered BUSY, and
nothing else changes. -/
def Obligations.SaveRefuses : Prop :=
  ∀ (k : Kind) (tag : Byte) (body : List Byte) (s : State), s.hasInHand k .ap tag body → s.saving = true →
    k ∈ [Kind.outputSetup, .headSetup, .liftSet, .meshHold, .presenceSetup, .seamDefine, .seamDelete, .seamPin,
      .seamFades, .curveWrite, .tableCommit, .layoutApply, .holdSetup, .save] →
    exec (k.command .ap tag body) s = .next (s.answered .ap ⟨tag, .busy, []⟩)

/-- No request on head port Hk changes the record, the meshes, the claim's owner or the presence of another
head, nor any seam record, curve, table, presence period, output setup, hold time or stored image. -/
def Obligations.HeadPortIsolation : Prop :=
  ∀ (k : Kind) (j : Head) (tag : Byte) (body : List Byte) (s t : State),
    exec (k.command (.head j) tag body) s = .next t →
    t.setup = s.setup ∧ t.timing = s.timing ∧ t.curves = s.curves ∧ t.live = s.live ∧ t.staged = s.staged ∧
      t.stored = s.stored ∧ t.save = s.save ∧ t.image = s.image ∧ t.source = s.source ∧
      (∀ h, (t.heads.get h).period = (s.heads.get h).period) ∧
      (∀ h, h ≠ j → t.heads.get h = s.heads.get h ∧ t.monitor.get h = s.monitor.get h ∧
        (t.mesh.get h).active = (s.mesh.get h).active ∧ (t.mesh.get h).staged = (s.mesh.get h).staged ∧
        (t.mesh.get h).commitPending = (s.mesh.get h).commitPending ∧
        (t.mesh.get h).lapse = (s.mesh.get h).lapse ∧
        (t.mesh.get h).claim.map Claim.owner = (s.mesh.get h).claim.map Claim.owner) ∧
      ∀ sl, (t.seams.get sl).map (fun q => (q.geo, q.pin, q.nOut, q.nIn)) =
        (s.seams.get sl).map (fun q => (q.geo, q.pin, q.nOut, q.nIn))

/-- Every step keeps the bounds of the Request Queue, the law that a free Executor has nothing it may take,
and the law of the cold start. -/
def Obligations.QueueLawsKept : Prop :=
  ∀ s t, step s = .next t → (s.queueLawful → t.queueLawful) ∧ (s.executorLawful → t.executorLawful) ∧
    (s.coldStartLawful → t.coldStartLawful)

/-- Every step keeps the room set aside in every reply buffer: held bytes and set-aside bytes never pass
1,280. The curves' law bounds the longest CURVE_READ. -/
def Obligations.RoomLawKept : Prop :=
  ∀ s t, step s = .next t → s.curvesLawful → s.roomLawful → t.roomLawful

/-! ## Output Timing -/

/-- OUTPUT_START and OUTPUT_STOP, in every timing state. -/
def Obligations.OutputStartAndStop : Prop :=
  (∀ tag s, s.hasInHand .outputStart .ap tag [] →
    (∀ f, s.timing = .stopped → s.setup.rate = .fixed f → exec (.outputStart .ap tag []) s =
      .next (({ s with timing := .running .fixed false 0 }).outputFrameStart.answered .ap ⟨tag, .done, []⟩)) ∧
    (s.timing = .stopped → s.setup.rate = .source → s.source.state = .locked → exec (.outputStart .ap tag []) s =
      .next (({ s with timing := .running .following false 0 }).answered .ap ⟨tag, .done, []⟩)) ∧
    (s.timing = .stopped → s.setup.rate = .source → s.source.state ≠ .locked → exec (.outputStart .ap tag []) s =
      .next (({ s with timing := .running .freeRunning false 0 }).outputFrameStart.answered .ap ⟨tag, .done, []⟩)) ∧
    ∀ p f e, s.timing = .running p f e → exec (.outputStart .ap tag []) s =
      .next (({ s with timing := .running p false e }).answered .ap ⟨tag, .done, []⟩)) ∧
  ∀ tag s, s.hasInHand .outputStop .ap tag [] →
    (s.timing = .stopped → exec (.outputStop .ap tag []) s = .next (s.answered .ap ⟨tag, .done, []⟩)) ∧
    ∀ p f e, s.timing = .running p f e → exec (.outputStop .ap tag []) s =
      .next (({ s with timing := .running p true e }).answered .ap ⟨tag, .done, []⟩)

/-- OUTPUT_SETUP with no save in flight: BUSY unless STOPPED, INVALID for a field outside its list, else the
record is replaced, and a changed W, H or S resets both banks of every head to its flat mesh, releases the
claims and raises MESH_LANDED of every head. A pending commit, which no lawful state has while STOPPED with no save
in flight, stays: MODEL'S CHOICE, log 24. -/
def Obligations.OutputSetup : Prop :=
  ∀ (w h z r a : Nat) (tag : Byte) (s : State), fits2 w → fits2 h → z < 256 → r < 256 → a < 256 →
    let body := be2 w ++ be2 h ++ be1 z ++ be1 r ++ be1 a
    s.hasInHand .outputSetup .ap tag body → s.saving = false →
    (s.running = true → exec (.outputSetup .ap tag body) s = .next (s.answered .ap ⟨tag, .busy, []⟩)) ∧
    (s.running = false → ¬ (640 ≤ w ∧ w ≤ 4096 ∧ 360 ≤ h ∧ h ≤ 2304 ∧ (z = 64 ∨ z = 128) ∧ r ≤ 9 ∧ a ≤ 1) →
      exec (.outputSetup .ap tag body) s = .next (s.answered .ap ⟨tag, .invalid, []⟩)) ∧
    ∀ rate, s.running = false → 640 ≤ w → w ≤ 4096 → 360 ≤ h → h ≤ 2304 → (z = 64 ∨ z = 128) →
      rate.code = r → a ≤ 1 →
      let o : Machine.OutputSetup := ⟨w, h, z, rate, decide (a = 1)⟩
      (w = s.setup.w ∧ h = s.setup.h ∧ z = s.setup.s → exec (.outputSetup .ap tag body) s =
        .next (({ s with setup := o }).answered .ap ⟨tag, .done, []⟩)) ∧
      (¬ (w = s.setup.w ∧ h = s.setup.h ∧ z = s.setup.s) → exec (.outputSetup .ap tag body) s =
        .next ((({ s with
          setup := o
          mesh := Quad.ofFn fun k =>
            let flat := flatMesh o (s.heads.get k).tile
            { s.mesh.get k with active := flat, staged := flat, claim := none } }).withNotices 0xF#19).answered .ap
          ⟨tag, .done, []⟩))

/-- FRAME_PERIOD_EXPIRY under FIXED and FREE_RUNNING and FOLLOW_TIMEOUT under FOLLOWING: time passes to the
moment the frame is due, and the output frame start comes, or the stop if one is pending. P + P/4 is
rounded down to a tick.
The passing of time and the rounding are the MODEL'S CHOICE: logs 2 and 21. -/
def Obligations.FrameExpiries : Prop :=
  (∀ s f e rate, s.timing = .running .fixed f e → s.setup.rate = .fixed rate →
    let u := s.elapse (rate.period - e)
    exec .framePeriodExpiry s = .next
      (if f then u.stopOutput else ({ u with timing := .running .fixed false 0 }).outputFrameStart)) ∧
  (∀ s f e, s.timing = .running .freeRunning f e →
    let u := s.elapse (s.measured.getD 50000 - e)
    exec .framePeriodExpiry s = .next
      (if f then u.stopOutput else ({ u with timing := .running .freeRunning false 0 }).outputFrameStart)) ∧
  ∀ s f e, s.timing = .running .following f e →
    let P := s.measured.getD 50000
    let u := s.elapse (P + P / 4 - e)
    exec .followTimeout s = .next
      (if f then u.stopOutput else ({ u with timing := .running .freeRunning false 0 }).outputFrameStart)

/-- The output frame start and the move to STOPPED, block by block. A frame start: commits land unless a save is in
flight; each fade's k rises by 1 and settles at N; the seam view is published after that; the hold count advances;
then the buffer of the view is chosen by the input state; all four engines take views that hold what each block then
holds. The stop: pacing and views are dropped, every fade settles at its to mode, and pending commits land unless a
save is in flight. Each adds the notices of what it did and changes no other block. -/
def Obligations.FrameStartAndStop : Prop :=
  (∀ s : State, let t := s.outputFrameStart
    let lands := fun h : Head => (s.mesh.get h).commitPending = true ∧ s.saving = false
    let settles := fun sl : Slot => ∃ q f, s.seams.get sl = some q ∧ q.fade = some f ∧ f.k + 1 = f.n
    let expires := s.source.state = .holding ∧ s.source.holdTime < s.source.holdCount + 1
    let dark := t.source.state = .noSignal ∨ t.source.state = .unsupported ∨ t.source.state = .black
    (∀ h, (lands h → t.mesh.get h =
        { s.mesh.get h with active := (s.mesh.get h).staged, claim := none, commitPending := false }) ∧
      (¬ lands h → t.mesh.get h = s.mesh.get h)) ∧
    (∀ sl, (s.seams.get sl = none → t.seams.get sl = none) ∧ ∀ q, s.seams.get sl = some q →
      (q.fade = none → t.seams.get sl = some q) ∧
      ∀ f, q.fade = some f →
        (f.k + 1 = f.n → t.seams.get sl = some { q with mode := f.dst, target := f.dst, fade := none }) ∧
        (f.k + 1 ≠ f.n → t.seams.get sl = some { q with fade := some { f with k := f.k + 1 } })) ∧
    (∃ view, t.published = some view ∧
      ∀ sl, view.get sl = (t.seams.get sl).map fun q => ⟨q.mode, q.fade⟩) ∧
    (s.source.state ≠ .holding → t.source = s.source) ∧
    (s.source.state = .holding → t.source = { s.source with
      holdCount := s.source.holdCount + 1
      state := if s.source.holdTime < s.source.holdCount + 1 then .black else .holding }) ∧
    (dark → t.repeated = s.repeated ∧ t.buffers.toList = s.buffers.toList.map fun b => match b with
      | .filling w => .filling w
      | _ => .free) ∧
    (¬ dark → s.buffers.any Buffer.isReady = true → t.repeated = s.repeated ∧
      t.buffers.toList = s.buffers.toList.map fun b => match b with
        | .ready f => .shown f
        | .filling w => .filling w
        | _ => .free) ∧
    (¬ dark → s.buffers.any Buffer.isReady = false → t.buffers = s.buffers ∧
      t.repeated = if t.source.state = .locked then min (s.repeated + 1) 65535 else s.repeated) ∧
    (∀ h, ∃ v, t.views.get h = some v ∧ v.head = h ∧ v.w = s.setup.w ∧ v.h = s.setup.h ∧ v.s = s.setup.s ∧
      v.enabled = (s.heads.get h).enabled ∧ v.tile = (s.heads.get h).tile ∧ v.depth = (s.heads.get h).depth ∧
      v.mode = (s.heads.get h).mode ∧ v.lift0 = (s.heads.get h).lift0 ∧ v.lift1 = (s.heads.get h).lift1 ∧
      v.bank = (t.mesh.get h).active ∧ v.curves = s.curves ∧ v.decode = s.live.decode ∧
      v.encode = s.live.encode.get h ∧ v.input = t.source.state ∧
      (∀ sl, v.geometry.get sl = (t.seams.get sl).map (·.geo) ∧
        v.looks.get sl = (t.seams.get sl).map fun q => ⟨q.mode, q.fade⟩) ∧
      (v.source = none ↔ ∀ f, .shown f ∉ t.buffers.toList) ∧
      ∀ f, v.source = some f → .shown f ∈ t.buffers.toList) ∧
    s.noticed t (fun k => (∃ h, lands h ∧ k = h.toNat) ∨ (∃ sl, settles sl ∧ k = 12 + sl.toNat) ∨
      (expires ∧ k = 16)) ∧
    t = { s with
      mesh := t.mesh
      seams := t.seams
      published := t.published
      source := t.source
      buffers := t.buffers
      repeated := t.repeated
      views := t.views
      ports := t.ports }) ∧
  ∀ s : State, let t := s.stopOutput
    let lands := fun h : Head => (s.mesh.get h).commitPending = true ∧ s.saving = false
    let settles := fun sl : Slot => ∃ q f, s.seams.get sl = some q ∧ q.fade = some f
    (∀ h, t.views.get h = none) ∧
    (∀ h, (lands h → t.mesh.get h =
        { s.mesh.get h with active := (s.mesh.get h).staged, claim := none, commitPending := false }) ∧
      (¬ lands h → t.mesh.get h = s.mesh.get h)) ∧
    (∀ sl, (s.seams.get sl = none → t.seams.get sl = none) ∧ ∀ q, s.seams.get sl = some q →
      (q.fade = none → t.seams.get sl = some q) ∧
      ∀ f, q.fade = some f → t.seams.get sl = some { q with mode := f.dst, target := f.dst, fade := none }) ∧
    s.noticed t (fun k => (∃ h, lands h ∧ k = h.toNat) ∨ ∃ sl, settles sl ∧ k = 12 + sl.toNat) ∧
    t = { s with timing := .stopped, views := t.views, seams := t.seams, mesh := t.mesh, ports := t.ports }

/-- FADE_SETTLE and HOLD_TIME_EXPIRY are the output frame start at which a fade or a hold ends: where the next frame
start settles the slot, or turns a hold to BLACK, each answers as that frame start's own expiry does, and then the
seam is settled and published settled, or the input state is BLACK. That they stand for that frame start is the
MODEL'S CHOICE: log 7. -/
def Obligations.FadeAndHoldExpiries : Prop :=
  (∀ sl q f s p e, s.timing = .running p false e → s.seams.get sl = some q → q.fade = some f → f.k + 1 = f.n →
    exec (.fadeSettle sl) s = exec (if p = .following then .followTimeout else .framePeriodExpiry) s ∧
    ∃ t, exec (.fadeSettle sl) s = .next t ∧
      t.seams.get sl = some { q with mode := f.dst, target := f.dst, fade := none } ∧
      (∃ view, t.published = some view ∧ view.get sl = some ⟨f.dst, none⟩) ∧
      ∀ port, (t.ports.get port).notices.getLsbD (12 + sl.toNat) = true) ∧
  ∀ s p e, s.timing = .running p false e → s.source.state = .holding →
    s.source.holdTime < s.source.holdCount + 1 →
    exec .holdTimeExpiry s = exec (if p = .following then .followTimeout else .framePeriodExpiry) s ∧
    ∃ t, exec .holdTimeExpiry s = .next t ∧
      t.source.state = .black ∧ t.source.holdCount = s.source.holdCount + 1 ∧
      (∀ h, ∃ v, t.views.get h = some v ∧ v.input = .black ∧ v.source = none) ∧
      ∀ port, (t.ports.get port).notices.getLsbD 16 = true

/-! ## Head Records and Presence Monitor -/

/-- HEAD_SETUP with no save in flight, for every value its fields can carry: INVALID, CONFLICT, or enabled
flag, tile and depth replaced, with the contribution re-derived where the flag changes. -/
def Obligations.HeadSetup : Prop :=
  ∀ (n e d : Nat) (t : Tile) (tag : Byte) (s : State), n < 256 → e < 256 → d < 256 →
    fits2 t.x0 → fits2 t.x1 → fits2 t.y0 → fits2 t.y1 →
    let body := be1 n ++ be1 e ++ tileBytes t ++ be1 d
    let tileFits := t.x0 + 256 ≤ t.x1 + 1 ∧ t.y0 + 256 ≤ t.y1 + 1 ∧ t.x1 ≤ 4095 ∧ t.y1 ≤ 2303
    s.hasInHand .headSetup .ap tag body → s.saving = false →
    (¬ (n ≤ 3 ∧ e ≤ 1 ∧ (d = 8 ∨ d = 10 ∨ d = 12) ∧ tileFits) →
      exec (.headSetup .ap tag body) s = .next (s.answered .ap ⟨tag, .invalid, []⟩)) ∧
    ∀ (h : Head) (depth : Depth), n = h.toNat → e ≤ 1 → d = depthBits depth → tileFits →
      let r := { s.heads.get h with enabled := decide (e = 1), tile := t, depth := depth }
      let u := { s with heads := s.heads.set h r }
      ((∃ sl q, s.seams.get sl = some q ∧ q.geo.names h = true ∧ q.geo.inTile t = false) →
        exec (.headSetup .ap tag body) s = .next (s.answered .ap ⟨tag, .conflict, []⟩)) ∧
      ((∀ sl q, s.seams.get sl = some q → q.geo.names h = true → q.geo.inTile t = true) →
        exec (.headSetup .ap tag body) s = .next
          (((if r.enabled = (s.heads.get h).enabled then u else u.rederive h).touch (some h) .ap).answered .ap
            ⟨tag, .done, []⟩))

/-- HEAD_MODE, LIFT_SET and HOLD_SETUP write their fields clamped, and answer ADJUSTED exactly where a value
was clamped; a head, a mode or a pattern kind outside its list is INVALID. -/
def Obligations.ModeLiftAndHold : Prop :=
  (∀ (p : Port) (tag : Byte) (body : List Byte) (s : State), s.hasInHand .headMode p tag body →
    (p = .ap ∨ ∃ h : Head, p = .head h ∧ u8 body 0 = h.toNat) →
    3 < u8 body 0 ∨ 2 < u8 body 1 ∨ (u8 body 1 = 2 ∧ 4 < u8 body 2) →
    exec (.headMode p tag body) s = .next (s.answered p ⟨tag, .invalid, []⟩)) ∧
  (∀ (tag : Byte) (body : List Byte) (s : State), s.hasInHand .liftSet .ap tag body → s.saving = false →
    3 < u8 body 0 → exec (.liftSet .ap tag body) s = .next (s.answered .ap ⟨tag, .invalid, []⟩)) ∧
  (∀ (p : Port) (h : Head) (rest : List Byte) (tag : Byte) (s : State), p.speaksFor h →
    (s.hasInHand .headMode p tag (be1 h.toNat ++ be1 0 ++ rest) →
      exec (.headMode p tag (be1 h.toNat ++ be1 0 ++ rest)) s =
        .next ((({ s with heads := s.heads.set h { s.heads.get h with mode := .live } }).touch (some h) p).answered p
          ⟨tag, .done, []⟩)) ∧
    (s.hasInHand .headMode p tag (be1 h.toNat ++ be1 1 ++ rest) →
      exec (.headMode p tag (be1 h.toNat ++ be1 1 ++ rest)) s =
        .next ((({ s with heads := s.heads.set h { s.heads.get h with mode := .muted } }).touch (some h) p).answered p
          ⟨tag, .done, []⟩))) ∧
  (∀ (p : Port) (h : Head) (f : PatternFields) (q : Pattern) (tag : Byte) (s : State), p.speaksFor h → f.kind < 256 →
    fits2 f.codes.r → fits2 f.codes.g → fits2 f.codes.b → fits2 f.level → fits2 f.spacing → f.pattern? = some q →
    let body := be1 h.toNat ++ be1 2 ++ patternBytes f
    s.hasInHand .headMode p tag body →
    exec (.headMode p tag body) s =
      .next ((({ s with heads := s.heads.set h { s.heads.get h with mode := .pattern q.clamp } }).touch (some h)
        p).answered p ⟨tag, if q.clamp = q then .done else .adjusted, []⟩)) ∧
  (∀ (h : Head) (a b : Rgb) (tag : Byte) (s : State), fits2 a.r → fits2 a.g → fits2 a.b → fits2 b.r → fits2 b.g →
    fits2 b.b →
    let body := be1 h.toNat ++ rgbBytes a ++ rgbBytes b
    s.hasInHand .liftSet .ap tag body → s.saving = false →
    exec (.liftSet .ap tag body) s =
      .next ((({ s with heads := s.heads.set h { s.heads.get h with
          lift0 := ⟨min 2047 a.r, min 2047 a.g, min 2047 a.b⟩
          lift1 := ⟨min 2047 b.r, min 2047 b.g, min 2047 b.b⟩ } }).touch (some h) .ap).answered .ap
        ⟨tag, if a.r ≤ 2047 ∧ a.g ≤ 2047 ∧ a.b ≤ 2047 ∧ b.r ≤ 2047 ∧ b.g ≤ 2047 ∧ b.b ≤ 2047 then .done
          else .adjusted, []⟩)) ∧
  ∀ (n : Nat) (tag : Byte) (s : State), fits2 n → s.hasInHand .holdSetup .ap tag (be2 n) → s.saving = false →
    exec (.holdSetup .ap tag (be2 n)) s =
      .next (({ s with source := { s.source with holdTime := min n 600 } }).answered .ap
        ⟨tag, if n ≤ 600 then .done else .adjusted, []⟩)

/-- The queries of one record answer DONE with the reply bodies of R164 and change nothing but what any answer does:
STATUS, HEAD_QUERY, MESH_QUERY, SEAM_QUERY and CURVE_READ from any port, and SOURCE_QUERY, whose clear flag zeroes
the counters after the report; a number outside its list is INVALID. HEAD_QUERY and MESH_QUERY also restart the
lapse timer of the claim their sender owns on the head: DEDUCED, log 17.
The height of a FILLING buffer, a size above 65,535, and the bits per channel before any frame, which R164 leaves
open: logs 10, 36 and 39; the whole milliseconds: log 35. -/
def Obligations.Reports : Prop :=
  let tells := fun (c : Instr) (s u : State) (p : Port) (tag : Byte) (body : List Byte) =>
    exec c s = .next (u.answered p ⟨tag, .done, body⟩)
  let rgb := fun c : Rgb => be2 c.r ++ be2 c.g ++ be2 c.b
  let sized : Option Size → List Byte := fun z => match z with
    | none => [0, 0, 0, 0]
    | some z => (if z.w < 65536 then be2 z.w else be2 (Config.wideSize z.w).toNat) ++
        (if z.h < 65536 then be2 z.h else be2 (Config.wideSize z.h).toNat)
  let buffer : Buffer → List Byte := fun b => match b with
    | .free => [0] ++ sized none
    | .filling w => [1] ++ sized (some ⟨w, 0⟩)
    | .ready f => [2] ++ sized (some f.size)
    | .shown f => [3] ++ sized (some f.size)
  let portOf : Option Port → List Byte := fun q => match q with
    | some (.head k) => be1 k.toNat
    | some .ap => [4]
    | none => [255]
  (∀ p tag s, s.hasInHand .status p tag [] →
    tells (.status p tag []) s s p tag ([s.startCode] ++ be1 s.stored.code ++
      be1 s.save.code ++ be1 s.queue.length ++ be2 s.queueBytes ++ (match s.timing with
        | .stopped => [0, 255, 0]
        | .running q f _ => [1] ++ be1 q.code ++ beBool f) ++
      be1 s.source.state.code ++ beBool (s.contributes .i0) ++ beBool (s.contributes .i1) ++
      beBool (s.contributes .i2) ++ beBool (s.contributes .i3))) ∧
  (∀ p n tag s, n < 256 → s.hasInHand .headQuery p tag (be1 n) →
    (3 < n → exec (.headQuery p tag (be1 n)) s = .next (s.answered p ⟨tag, .invalid, []⟩)) ∧
    ∀ h : Head, n = h.toNat →
      let r := s.heads.get h
      let m := s.monitor.get h
      tells (.headQuery p tag (be1 n)) s (s.touch (some h) p) p tag (be1 n ++ beBool r.enabled ++
        be2 r.tile.x0 ++ be2 r.tile.x1 ++ be2 r.tile.y0 ++ be2 r.tile.y1 ++ be1 (depthBits r.depth) ++ (match r.mode with
          | .live => [0, 255, 0, 0, 0, 0, 0, 0, 0, 0, 0, 0]
          | .muted => [1, 255, 0, 0, 0, 0, 0, 0, 0, 0, 0, 0]
          | .pattern (.rawFlat c) => [2, 0] ++ rgb c ++ [0, 0, 0, 0]
          | .pattern (.rawGrid l) => [2, 1, 0, 0, 0, 0, 0, 0] ++ be2 l ++ [0, 0]
          | .pattern (.rawDots l) => [2, 2, 0, 0, 0, 0, 0, 0] ++ be2 l ++ [0, 0]
          | .pattern (.canvasGrid z l) => [2, 3, 0, 0, 0, 0, 0, 0] ++ be2 l ++ be2 z
          | .pattern .weightView => [2, 4, 0, 0, 0, 0, 0, 0, 0, 0, 0, 0]) ++
        rgb r.lift0 ++ rgb r.lift1 ++ beBool r.hold ++ be1 r.period.code ++ be1 m.presence.code ++ be1 m.light.code ++
        beBool m.sink ++ beBool m.contributes)) ∧
  (∀ p n tag s, n < 256 → s.hasInHand .meshQuery p tag (be1 n) →
    (3 < n → exec (.meshQuery p tag (be1 n)) s = .next (s.answered p ⟨tag, .invalid, []⟩)) ∧
    ∀ h : Head, n = h.toNat →
      let m := s.mesh.get h
      tells (.meshQuery p tag (be1 n)) s (s.touch (some h) p) p tag (be1 n ++ be1 s.setup.columns ++ be1 s.setup.rows ++
        portOf (m.claim.map Claim.owner) ++ (match m.claim with
          | some c => be2 (min 10000 (c.timer / 3000))
          | none => [0, 0]) ++
        beBool m.commitPending ++ beBool (m.commitPending && s.saving) ++ beBool (s.heads.get h).hold ++
        portOf m.lapse)) ∧
  (∀ p n tag s, n < 256 → s.hasInHand .seamQuery p tag (be1 n) →
    (3 < n → exec (.seamQuery p tag (be1 n)) s = .next (s.answered p ⟨tag, .invalid, []⟩)) ∧
    ∀ sl : Slot, n = sl.toNat →
      (s.seams.get sl = none → tells (.seamQuery p tag (be1 n)) s s p tag (be1 n ++ List.replicate 19 0)) ∧
      ∀ q, s.seams.get sl = some q → tells (.seamQuery p tag (be1 n)) s s p tag (be1 n ++ [1] ++
        be1 q.geo.orientation.code ++ be1 q.geo.falling.toNat ++ be1 q.geo.rising.toNat ++ be2 q.geo.a ++ be2 q.geo.b ++
        be1 q.geo.curve ++ be1 q.pin.code ++ be1 q.nOut ++ be1 q.nIn ++ be1 q.mode.code ++ be1 q.target.code ++
        (match q.fade with
          | some f => [1] ++ be1 f.src.code ++ be1 f.dst.code ++ be1 f.k ++ be1 f.n
          | none => [0, 0, 0, 0, 0]))) ∧
  (∀ p n tag s, n < 256 → s.hasInHand .curveRead p tag (be1 n) →
    (n ≤ 7 → tells (.curveRead p tag (be1 n)) s s p tag (be1 n ++ (s.curves.curve n).flatMap be2)) ∧
    (7 < n → exec (.curveRead p tag (be1 n)) s = .next (s.answered p ⟨tag, .invalid, []⟩))) ∧
  ∀ p n tag s, n < 256 → s.hasInHand .sourceQuery p tag (be1 n) →
    let i := s.source
    let report := be1 i.state.code ++ sized i.locked ++
      (if i.state = .acquiring then sized i.candidate ++ be1 i.runCount else [0, 0, 0, 0, 0]) ++
      (if i.state = .holding then be2 i.holdCount else [0, 0]) ++ be2 i.holdTime ++ (match i.bits with
        | some d => be1 (depthBits d)
        | none => [0]) ++
      sized i.outOfRange ++ buffer s.buffers.b0 ++ buffer s.buffers.b1 ++ buffer s.buffers.b2 ++
      be2 s.dropped ++ be2 s.repeated ++ be2 s.broken ++ be4 (s.measured.getD 0 / 3)
    (n = 0 → tells (.sourceQuery p tag (be1 n)) s s p tag report) ∧
    (p = .ap → n = 1 →
      tells (.sourceQuery p tag (be1 n)) s { s with dropped := 0, repeated := 0, broken := 0 } p tag report) ∧
    (p = .ap → 1 < n → exec (.sourceQuery p tag (be1 n)) s = .next (s.answered p ⟨tag, .invalid, []⟩))

/-- The reads of a run, and of a layout, carry the records as they stand and change nothing else: MESH_READ,
TABLE_READ and LAYOUT_READ from any port; a run outside the grid or the table, or a number outside its list, is
INVALID. MESH_READ also restarts the lapse timer of the claim its sender owns on the head: DEDUCED, log 17. The
tiles and bands of a preset stand in Obligations.LayoutApply by their arithmetic. -/
def Obligations.RunReads : Prop :=
  (∀ p n bank start count tag s, n < 256 → bank < 256 → fits2 start → count < 256 →
    let body := be1 n ++ be1 bank ++ be2 start ++ be1 count
    let fits := n ≤ 3 ∧ bank ≤ 1 ∧ 1 ≤ count ∧ count ≤ 32 ∧ start + count ≤ s.setup.nodes
    s.hasInHand .meshRead p tag body →
    (¬ fits → exec (.meshRead p tag body) s = .next (s.answered p ⟨tag, .invalid, []⟩)) ∧
    ∀ h : Head, fits → n = h.toNat →
      exec (.meshRead p tag body) s =
        .next ((s.touch (some h) p).answered p ⟨tag, .done, body ++
          (((if bank = 1 then (s.mesh.get h).staged else (s.mesh.get h).active).drop start).take count).flatMap
            fun x => be3s x.u ++ be3s x.v ++ beBool x.visible⟩)) ∧
  (∀ p sel copy start count tag s, sel < 256 → copy < 256 → fits2 start → count < 256 →
    let body := be1 sel ++ be1 copy ++ be2 start ++ be1 count
    let fits := sel ≤ 4 ∧ copy ≤ 1 ∧ 1 ≤ count ∧ count ≤ 64 ∧ start + count ≤ 257
    s.hasInHand .tableRead p tag body →
    (¬ fits → exec (.tableRead p tag body) s = .next (s.answered p ⟨tag, .invalid, []⟩)) ∧
    (fits → exec (.tableRead p tag body) s =
      .next (s.answered p ⟨tag, .done, body ++
        ((((if copy = 1 then s.staged else s.live).table sel).drop start).take count).flatMap be2⟩))) ∧
  ∀ p id overlap tag s, id < 256 → overlap < 256 → s.hasInHand .layoutRead p tag (be1 id ++ be1 overlap) →
    (5 < id → exec (.layoutRead p tag (be1 id ++ be1 overlap)) s = .next (s.answered p ⟨tag, .invalid, []⟩)) ∧
    (id ≤ 5 → ∃ q, preset? id = some q ∧
      let v := max 4 (min overlap 24)
      exec (.layoutRead p tag (be1 id ++ be1 overlap)) s =
        .next (s.answered p ⟨tag, if 4 ≤ overlap ∧ overlap ≤ 24 then .done else .adjusted,
          be1 id ++ be1 q.nc ++ be1 q.nr ++ be1 v ++ be1 q.heads.length ++
          q.heads.flatMap (fun x => let t := q.tile v x
            be1 x.head.toNat ++ be2 t.x0 ++ be2 t.x1 ++ be2 t.y0 ++ be2 t.y1) ++
          be1 q.seams.length ++
          q.seams.flatMap (fun x => let g := q.geometry v x
            be1 x.slot.toNat ++ be1 g.orientation.code ++ be1 g.falling.toNat ++ be1 g.rising.toNat ++ be2 g.a ++
              be2 g.b ++ be1 g.curve ++ [0])⟩))

/-- The events of the Presence Monitor's lines and timers, and the lapse of a claim: DETECT_LINE_CHANGE,
SINK_DEBOUNCE_EXPIRY, PRESENCE_EXPIRY and CLAIM_LAPSE, each at the moment its timer is due.
Time passes to the due moment: log 2. -/
def Obligations.InputExpiries : Prop :=
  (∀ h level s, exec (.detectLineChange h level) s = .next { s with monitor := s.monitor.set h <|
    { s.monitor.get h with
      line := level
      debounce := if level = (s.monitor.get h).sink then none else some ((s.monitor.get h).debounce.getD 0) } }) ∧
  (∀ h n s, (s.monitor.get h).debounce = some n →
    let u := s.elapse (600000 - n)
    exec (.sinkDebounceExpiry h) s = .next (({ u with monitor := u.monitor.set h <|
      { u.monitor.get h with sink := (s.monitor.get h).line, debounce := none } }).rederive h)) ∧
  (∀ h n limit s, (s.monitor.get h).presence = .present n → (s.heads.get h).period.ticks = some limit →
    let u := s.elapse (limit - n)
    exec (.presenceExpiry h) s = .next (({ u with monitor := u.monitor.set h <|
      { u.monitor.get h with presence := .lost } }).rederive h)) ∧
  ∀ h c s, (s.mesh.get h).claim = some c → (s.mesh.get h).commitPending = false →
    let u := s.elapse (30000000 - c.timer)
    exec (.claimLapse h) s = .next (({ u with mesh := u.mesh.set h <|
      { u.mesh.get h with staged := (s.mesh.get h).active, claim := none, lapse := some c.owner } }).withNotices
        (BitVec.ofNat 19 (2 ^ (4 + h.toNat))))

/-- HEAD_STATE writes the light state and PRESENCE_SETUP the period, the latter with the presence state of
the table of R88; each re-derives the contribution where its input changes, and reports what stands after. A
head, a light state or a period code outside its list is INVALID. -/
def Obligations.HeadStateAndPresenceSetup : Prop :=
  (∀ (p : Port) (tag : Byte) (body : List Byte) (s : State), s.hasInHand .headState p tag body →
    (p = .ap ∨ ∃ h : Head, p = .head h ∧ u8 body 0 = h.toNat) → 3 < u8 body 0 ∨ 2 < u8 body 1 →
    exec (.headState p tag body) s = .next (s.answered p ⟨tag, .invalid, []⟩)) ∧
  (∀ (tag : Byte) (body : List Byte) (s : State), s.hasInHand .presenceSetup .ap tag body → s.saving = false →
    3 < u8 body 0 ∨ 5 < u8 body 1 →
    exec (.presenceSetup .ap tag body) s = .next (s.answered .ap ⟨tag, .invalid, []⟩)) ∧
  (∀ p (h : Head) (l : Light) tag s, p.speaksFor h → s.hasInHand .headState p tag (be1 h.toNat ++ be1 l.code) →
    let m := s.monitor.get h
    let u := if l = m.light then s else ({ s with monitor := s.monitor.set h { m with light := l } }).rederive h
    let m' := u.monitor.get h
    exec (.headState p tag (be1 h.toNat ++ be1 l.code)) s =
      .next ((u.touch (some h) p).answered p ⟨tag, .done, be1 h.toNat ++ be1 m'.presence.code ++
        be1 m'.light.code ++ beBool m'.sink ++ beBool m'.contributes⟩)) ∧
  ∀ (h : Head) (n : Period) tag s, s.hasInHand .presenceSetup .ap tag (be1 h.toNat ++ be1 n.code) → s.saving = false →
    let m := s.monitor.get h
    let old := (s.heads.get h).period
    ∃ x, (old = n → x = m.presence) ∧ (old ≠ n → n = .off → x = .notWatched) ∧
      (old ≠ n → old = .off → x = .present 0) ∧
      (old ≠ n → old ≠ .off → n ≠ .off →
        ((∃ t, m.presence = .present t) → x = .present 0) ∧ ((∀ t, m.presence ≠ .present t) → x = m.presence)) ∧
      let v := { s with heads := s.heads.set h { s.heads.get h with period := n } }
      let u := if x = m.presence then v
        else ({ v with monitor := v.monitor.set h { m with presence := x } }).rederive h
      let m' := u.monitor.get h
      exec (.presenceSetup .ap tag (be1 h.toNat ++ be1 n.code)) s =
        .next ((u.touch (some h) .ap).answered .ap ⟨tag, .done, be1 h.toNat ++ be1 m'.presence.code ++
          be1 m'.light.code ++ beBool m'.sink ++ beBool m'.contributes⟩)

/-- Every step keeps every contribution equal to what the four inputs give, a debounce running exactly where
line and sink differ, and a head unwatched exactly where its period is OFF. -/
def Obligations.ContributionLawsKept : Prop :=
  ∀ s t, step s = .next t → (s.contributionsLawful → t.contributionsLawful) ∧ (s.monitorsLawful → t.monitorsLawful)

/-- A re-derivation that changes a contribution writes it, sets HEAD_CHANGED and retargets every seam naming the
head, from the new contributions, and no other: each such seam keeps its target, settles there with SEAM_SETTLED,
starts a fade, reverses its fade, or leaves it for a new one. One that does not change the contribution changes
nothing. Before the first frame start of a started output it starts a fade as well: MODEL'S CHOICE, log 38. -/
def Obligations.RederiveEffect : Prop :=
  ∀ (h : Head) (s : State),
    let m := s.monitor.get h
    let c := decide ((s.heads.get h).enabled = true ∧ m.sink = true ∧ m.light = .on ∧
      (m.presence = .notWatched ∨ m.presence.code = 2))
    let on := fun k : Head => if k = h then c else s.contributes k
    let aim := fun q : Seam => q.pin.target (on q.geo.falling) (on q.geo.rising) q.target
    let length := fun q : Seam => if aim q = .shared then q.nIn else q.nOut
    let settles := fun q : Seam => aim q ≠ q.target ∧ (s.running = false ∨
      (q.fade = none ∧ length q = 0) ∨
      ∃ f, q.fade = some f ∧ ((aim q = f.src ∧ f.k = 0) ∨ (aim q ≠ f.src ∧ length q = 0)))
    (c = m.contributes → s.rederive h = s) ∧
    (c ≠ m.contributes →
      let t := s.rederive h
      t.monitor = s.monitor.set h { m with contributes := c } ∧
      (∀ sl q, s.seams.get sl = some q → q.geo.names h = true →
        (aim q = q.target → t.seams.get sl = some q) ∧
        (settles q → t.seams.get sl = some { q with mode := aim q, target := aim q, fade := none }) ∧
        (aim q ≠ q.target → s.running = true → q.fade = none → length q ≠ 0 → t.seams.get sl =
          some { q with target := aim q, fade := some ⟨q.mode, aim q, 0, length q⟩ }) ∧
        ∀ f, aim q ≠ q.target → s.running = true → q.fade = some f →
          (aim q = f.src → f.k ≠ 0 → t.seams.get sl = some { q with
            mode := f.dst, target := aim q, fade := some ⟨f.dst, f.src, f.n - f.k, f.n⟩ }) ∧
          (aim q ≠ f.src → length q ≠ 0 → t.seams.get sl = some { q with
            mode := f.dst, target := aim q, fade := some ⟨f.dst, aim q, 0, length q⟩ })) ∧
      (∀ sl q, s.seams.get sl = some q → q.geo.names h = false → t.seams.get sl = some q) ∧
      (∀ sl, s.seams.get sl = none → t.seams.get sl = none) ∧
      s.noticed t (fun k => k = 8 + h.toNat ∨ ∃ sl q, s.seams.get sl = some q ∧ q.geo.names h = true ∧ settles q ∧
        k = 12 + sl.toNat) ∧
      t = { s with monitor := t.monitor, seams := t.seams, ports := t.ports })

/-! ## Seams -/

/-- The target by pin and contributions, and what a change of target does to a settled seam: a fade of N_in
toward SHARED or N_out toward a solo mode, or settling at once where N is 0 or the output is STOPPED. Before the first
frame start of a started output a fade starts as well: MODEL'S CHOICE, log 38. -/
def Obligations.RetargetSettled : Prop :=
  (∀ (m : SeamMode) f r kept, (Pin.fixed m).target f r kept = m) ∧
  (∀ kept, Pin.auto.target true true kept = .shared ∧ Pin.auto.target true false kept = .soloFalling ∧
    Pin.auto.target false true kept = .soloRising ∧ Pin.auto.target false false kept = kept) ∧
  ∀ (sl : Slot) (q : Seam) (s : State), s.seams.get sl = some q → q.fade = none → q.mode = q.target →
    let t := q.pin.target (s.contributes q.geo.falling) (s.contributes q.geo.rising) q.target
    let n := if t = .shared then q.nIn else q.nOut
    let settled := { q with mode := t, target := t }
    (t = q.target → s.retargetSlot sl = { s with seams := s.seams.set sl (some q) }) ∧
    (t ≠ q.target → s.running = false ∨ n = 0 → s.retargetSlot sl =
      ({ s with seams := s.seams.set sl (some settled) }).withNotices (BitVec.ofNat 19 (2 ^ (12 + sl.toNat)))) ∧
    (t ≠ q.target → s.running = true → n ≠ 0 → s.retargetSlot sl =
      { s with seams := s.seams.set sl (some { q with target := t, fade := some ⟨q.mode, t, 0, n⟩ }) })

/-- A re-derivation during a fade: nothing where the target is the to mode; where it is the from mode the
fade reverses, at the same factor everywhere, or settles if k is 0; at the third mode the seam settles at the
to mode and starts anew. -/
def Obligations.RetargetFading : Prop :=
  ∀ (sl : Slot) (q : Seam) (f : Fade) (s : State), s.seams.get sl = some q → q.fade = some f →
    q.lawful s.running →
    let t := q.pin.target (s.contributes q.geo.falling) (s.contributes q.geo.rising) q.target
    let n := if t = .shared then q.nIn else q.nOut
    let notice := BitVec.ofNat 19 (2 ^ (12 + sl.toNat))
    let settled := { q with mode := t, target := t, fade := none }
    (t = f.dst → s.retargetSlot sl = { s with seams := s.seams.set sl (some q) }) ∧
    (t = f.src → f.k = 0 →
      t = q.mode ∧ s.retargetSlot sl = ({ s with seams := s.seams.set sl (some settled) }).withNotices notice) ∧
    (t = f.src → f.k ≠ 0 →
      let r : Fade := ⟨f.dst, f.src, f.n - f.k, f.n⟩
      s.retargetSlot sl = { s with seams := s.seams.set sl (some { q with mode := f.dst, target := t, fade := some r }) } ∧
      ∀ c, (SeamLook.mk f.dst (some r)).risingFactor c = (SeamLook.mk q.mode (some f)).risingFactor c) ∧
    (t ≠ f.src → t ≠ f.dst → n = 0 → s.retargetSlot sl =
      ({ s with seams := s.seams.set sl (some settled) }).withNotices notice) ∧
    (t ≠ f.src → t ≠ f.dst → n ≠ 0 → s.retargetSlot sl = { s with seams := s.seams.set sl <|
      (some { q with mode := f.dst, target := t, fade := some ⟨f.dst, t, 0, n⟩ }) })

/-- SEAM_DEFINE with no save in flight: INVALID for a structure error, CONFLICT for a band outside a tile or
overlapping another slot's band, else the seam is placed settled with N_out = 2 and N_in = 48. -/
def Obligations.SeamDefine : Prop :=
  ∀ (n o x y a b c w : Nat) (tag : Byte) (s : State), n < 256 → o < 256 → x < 256 → y < 256 → fits2 a → fits2 b →
    c < 256 → w < 256 →
    let body := be1 n ++ be1 o ++ be1 x ++ be1 y ++ be2 a ++ be2 b ++ be1 c ++ be1 w
    s.hasInHand .seamDefine .ap tag body → s.saving = false →
    (¬ (n ≤ 3 ∧ o ≤ 1 ∧ w ≤ 3 ∧ x ≤ 3 ∧ y ≤ 3 ∧ x ≠ y ∧ c ≤ 7 ∧ a + 16 ≤ b ∧ b ≤ a + 1024) →
      exec (.seamDefine .ap tag body) s = .next (s.answered .ap ⟨tag, .invalid, []⟩)) ∧
    ∀ (sl : Slot) (g : SeamGeometry) (pin : Pin), n = sl.toNat → o = g.orientation.code → x = g.falling.toNat →
      y = g.rising.toNat → a = g.a → b = g.b → c = g.curve → w = pin.code → g.shaped →
      let clear := g.inTile (s.heads.get g.falling).tile = true ∧ g.inTile (s.heads.get g.rising).tile = true ∧
        ∀ sl' q, sl' ≠ sl → s.seams.get sl' = some q → q.geo.orientation = g.orientation →
          (∃ h, g.names h = true ∧ q.geo.names h = true) → ¬ g.overlaps q.geo
      (¬ clear → exec (.seamDefine .ap tag body) s = .next (s.answered .ap ⟨tag, .conflict, []⟩)) ∧
      (clear →
        let t := pin.target (s.contributes g.falling) (s.contributes g.rising) .shared
        exec (.seamDefine .ap tag body) s = .next (({ s with
          seams := s.seams.set sl (some ⟨g, pin, 2, 48, t, t, none⟩) }).answered .ap ⟨tag, .done, []⟩))

/-- SEAM_DELETE empties its slot, SEAM_PIN writes the pin and re-derives, SEAM_FADES writes both lengths and
touches no fade; an empty slot is INVALID for the last two, and a slot or a pin outside its list for each. -/
def Obligations.SeamEdits : Prop :=
  (∀ (tag : Byte) (body : List Byte) (s : State), s.saving = false →
    (s.hasInHand .seamDelete .ap tag body → 3 < u8 body 0 →
      exec (.seamDelete .ap tag body) s = .next (s.answered .ap ⟨tag, .invalid, []⟩)) ∧
    (s.hasInHand .seamPin .ap tag body → 3 < u8 body 0 ∨ 3 < u8 body 1 →
      exec (.seamPin .ap tag body) s = .next (s.answered .ap ⟨tag, .invalid, []⟩)) ∧
    (s.hasInHand .seamFades .ap tag body → 3 < u8 body 0 →
      exec (.seamFades .ap tag body) s = .next (s.answered .ap ⟨tag, .invalid, []⟩))) ∧
  (∀ (sl : Slot) tag s, s.hasInHand .seamDelete .ap tag (be1 sl.toNat) → s.saving = false →
    exec (.seamDelete .ap tag (be1 sl.toNat)) s =
      .next (({ s with seams := s.seams.set sl none }).answered .ap ⟨tag, .done, []⟩)) ∧
  (∀ (sl : Slot) (pin : Pin) tag s, s.hasInHand .seamPin .ap tag (be1 sl.toNat ++ be1 pin.code) → s.saving = false →
    (∀ q, s.seams.get sl = some q → exec (.seamPin .ap tag (be1 sl.toNat ++ be1 pin.code)) s =
      .next ((({ s with seams := s.seams.set sl (some { q with pin := pin }) }).retargetSlot sl).answered .ap
        ⟨tag, .done, []⟩)) ∧
    (s.seams.get sl = none → exec (.seamPin .ap tag (be1 sl.toNat ++ be1 pin.code)) s =
      .next (s.answered .ap ⟨tag, .invalid, []⟩))) ∧
  ∀ (sl : Slot) (a b : Nat) tag s, a < 256 → b < 256 →
    s.hasInHand .seamFades .ap tag (be1 sl.toNat ++ be1 a ++ be1 b) → s.saving = false →
    (∀ q, s.seams.get sl = some q → exec (.seamFades .ap tag (be1 sl.toNat ++ be1 a ++ be1 b)) s =
      .next (({ s with seams := s.seams.set sl (some { q with nOut := a, nIn := b }) }).answered .ap
        ⟨tag, .done, []⟩)) ∧
    (s.seams.get sl = none → exec (.seamFades .ap tag (be1 sl.toNat ++ be1 a ++ be1 b)) s =
      .next (s.answered .ap ⟨tag, .invalid, []⟩))

/-- CURVE_WRITE clamps each entry to 4,096 and replaces a loadable curve where the clamped entries keep the
law of a curve; otherwise, and for the fixed curves, it is INVALID. -/
def Obligations.CurveWrite : Prop :=
  ∀ (n : Nat) (l : List Nat) (tag : Byte) (s : State), n < 256 → l.length = 65 → (∀ x ∈ l, fits2 x) →
    let body := be1 n ++ l.flatMap be2
    let c := l.map (min 4096)
    let keeps := 3 ≤ n ∧ n ≤ 7 ∧ c.getD 0 1 = 0 ∧ c.getD 64 0 = 4096 ∧ ∀ k, k < 64 → c.getD k 0 ≤ c.getD (k + 1) 0
    s.hasInHand .curveWrite .ap tag body → s.saving = false →
    (¬ keeps → exec (.curveWrite .ap tag body) s = .next (s.answered .ap ⟨tag, .invalid, []⟩)) ∧
    (keeps → ∃ t : Curves, (∀ k, t.curve k = if k = n then c else s.curves.curve k) ∧
      exec (.curveWrite .ap tag body) s = .next (({ s with curves := t }).answered .ap
        ⟨tag, if ∀ x ∈ l, x ≤ 4096 then .done else .adjusted, []⟩))

/-- Every step keeps the law of the fades: a fading seam has k below N and runs from its mode to its target,
which differ; a settled seam's mode is its target; no fade stands while STOPPED. -/
def Obligations.FadeLawKept : Prop := ∀ s t, step s = .next t → s.fadesLawful → t.fadesLawful

/-- Every step keeps the law of the bands: inside both heads' tiles, and apart from every other band of the
same orientation that shares a head. -/
def Obligations.BandLawKept : Prop := ∀ s t, step s = .next t → s.bandsLawful → t.bandsLawful

/-! ## Meshes -/

/-- The examination of a modifying mesh request before its own rule: head index, lapse record, pending commit,
claim of another port. A forced MESH_DISCARD passes the last, and one whose force flag is no flag is INVALID. -/
def Obligations.MeshExamination : Prop :=
  (∀ (k : Kind) (p : Port) (tag : Byte) (body : List Byte) (s : State),
    k ∈ [Kind.meshWrite, .meshCommit, .meshDiscard, .meshGenerate, .meshShift, .meshCopy] →
    (k = .meshDiscard → u8 body 1 = 0 ∨ (u8 body 1 = 1 ∧ p = .ap)) → s.hasInHand k p tag body →
    (p = .ap → 3 < u8 body 0 → exec (k.command p tag body) s = .next (s.answered p ⟨tag, .invalid, []⟩)) ∧
    ∀ h : Head, u8 body 0 = h.toNat → s.mayEdit p h →
      let m := s.mesh.get h
      (m.lapse = some p → exec (k.command p tag body) s =
        .next (({ s with mesh := s.mesh.set h { m with lapse := none } }).answered p ⟨tag, .lapsed, []⟩)) ∧
      (m.lapse ≠ some p → k ≠ .meshCommit → m.commitPending = true →
        exec (k.command p tag body) s = .next (s.answered p ⟨tag, .busy, []⟩)) ∧
      (∀ c, m.lapse ≠ some p → m.claim = some c → c.owner ≠ p → (k = .meshDiscard → u8 body 1 = 0) →
        exec (k.command p tag body) s = .next (s.answered p ⟨tag, .busy, []⟩))) ∧
  ∀ (tag : Byte) (body : List Byte) (s : State), s.hasInHand .meshDiscard .ap tag body → 1 < u8 body 1 →
    exec (.meshDiscard .ap tag body) s = .next (s.answered .ap ⟨tag, .invalid, []⟩)

/-- MESH_WRITE that passes its examination: the claim is taken, the nodes of the run are written clamped and
every other node of the STAGED bank stays; a run outside 1..32 or past the grid is INVALID. -/
def Obligations.MeshWrite : Prop :=
  ∀ (p : Port) (h : Head) (start : Nat) (l : List Node) (tag : Byte) (s : State), s.mayEdit p h → fits2 start →
    (∀ n ∈ l, fits3 n.u ∧ fits3 n.v) → l.length < 34 →
    let body := be1 h.toNat ++ be2 start ++ be1 l.length ++ l.flatMap nodeBytes
    let m := s.mesh.get h
    let passes := 1 ≤ l.length ∧ l.length ≤ 32 ∧ start + l.length ≤ s.setup.nodes
    s.hasInHand .meshWrite p tag body → m.lapse ≠ some p → m.commitPending = false →
    (∀ c, m.claim = some c → c.owner = p) → m.staged.length = s.setup.nodes →
    (¬ passes → exec (.meshWrite p tag body) s = .next (s.answered p ⟨tag, .invalid, []⟩)) ∧
    (passes → ∃ bank : List Node, bank.length = m.staged.length ∧
      (∀ i, bank[i]? = if start ≤ i ∧ i < start + l.length then l[i - start]?.map Node.clamp else m.staged[i]?) ∧
      exec (.meshWrite p tag body) s = .next (({ s with mesh := s.mesh.set h { m with
        staged := bank
        claim := some ⟨p, 0⟩
        lapse := if m.claim = none then none else m.lapse } }).answered p
          ⟨tag, if ∀ n ∈ l, n.clamp = n then .done else .adjusted, []⟩))

/-- MESH_COMMIT by its table: the owner's commit becomes pending, or lands at once while STOPPED with no save
in flight; another port's is BUSY; with nothing to commit it is DONE. -/
def Obligations.MeshCommit : Prop :=
  ∀ (p : Port) (h : Head) (tag : Byte) (s : State), s.mayEdit p h → s.hasInHand .meshCommit p tag (be1 h.toNat) →
    (s.mesh.get h).lapse ≠ some p →
    let m := s.mesh.get h
    (∀ c, m.claim = some c → c.owner = p → m.commitPending = false → s.running = true ∨ s.saving = true →
      exec (.meshCommit p tag (be1 h.toNat)) s =
        .next (({ s with mesh := s.mesh.set h { m with commitPending := true } }).answered p ⟨tag, .done, []⟩)) ∧
    (∀ c, m.claim = some c → c.owner = p → m.commitPending = false → s.running = false → s.saving = false →
      exec (.meshCommit p tag (be1 h.toNat)) s =
        .next ((({ s with mesh := s.mesh.set h { m with active := m.staged, claim := none } }).withNotices
          (BitVec.ofNat 19 (2 ^ h.toNat))).answered p ⟨tag, .done, []⟩)) ∧
    (∀ c, m.claim = some c → c.owner = p → m.commitPending = true →
      exec (.meshCommit p tag (be1 h.toNat)) s = .next (s.answered p ⟨tag, .done, []⟩)) ∧
    ((m.claim = none ∧ m.commitPending = true) ∨ (∃ c, m.claim = some c ∧ c.owner ≠ p) →
      exec (.meshCommit p tag (be1 h.toNat)) s = .next (s.answered p ⟨tag, .busy, []⟩)) ∧
    (m.claim = none → m.commitPending = false →
      exec (.meshCommit p tag (be1 h.toNat)) s = .next (s.answered p ⟨tag, .done, []⟩))

/-- MESH_DISCARD by the claim, forced or not, and MESH_HOLD, which forces out a head port's claim when it
sets hold with no commit pending; a head or a hold value outside its list is INVALID for it. -/
def Obligations.MeshDiscardAndHold : Prop :=
  (∀ (tag : Byte) (body : List Byte) (s : State), s.hasInHand .meshHold .ap tag body → s.saving = false →
    3 < u8 body 0 ∨ 1 < u8 body 1 →
    exec (.meshHold .ap tag body) s = .next (s.answered .ap ⟨tag, .invalid, []⟩)) ∧
  (∀ (p : Port) (h : Head) (force : Bool) (tag : Byte) (s : State), s.mayEdit p h → (force = true → p = .ap) →
    let body := be1 h.toNat ++ beBool force
    let m := s.mesh.get h
    s.hasInHand .meshDiscard p tag body → m.lapse ≠ some p → m.commitPending = false →
    (m.claim = none → exec (.meshDiscard p tag body) s = .next (s.answered p ⟨tag, .done, []⟩)) ∧
    (∀ c, m.claim = some c → c.owner = p → exec (.meshDiscard p tag body) s =
      .next (({ s with mesh := s.mesh.set h { m with staged := m.active, claim := none } }).answered p
        ⟨tag, .done, []⟩)) ∧
    (∀ c, m.claim = some c → c.owner ≠ p → force = true → exec (.meshDiscard p tag body) s =
      .next ((({ s with mesh := s.mesh.set h <|
        { m with staged := m.active, claim := none, lapse := some c.owner } }).withNotices
          (BitVec.ofNat 19 (2 ^ (4 + h.toNat)))).answered p ⟨tag, .done, []⟩))) ∧
  ∀ (h : Head) (x : Bool) (tag : Byte) (s : State),
    let body := be1 h.toNat ++ beBool x
    let m := s.mesh.get h
    let u := { s with heads := s.heads.set h { s.heads.get h with hold := x } }
    let ousts := x = true ∧ (s.heads.get h).hold = false ∧ m.commitPending = false
    s.hasInHand .meshHold .ap tag body → s.saving = false →
    (∀ k n, ousts → m.claim = some ⟨.head k, n⟩ → exec (.meshHold .ap tag body) s =
      .next ((({ u with mesh := u.mesh.set h <|
        { m with staged := m.active, claim := none, lapse := some (.head k) } }).withNotices
          (BitVec.ofNat 19 (2 ^ (4 + h.toNat)))).answered .ap ⟨tag, .done, []⟩)) ∧
    (¬ (ousts ∧ ∃ k n, m.claim = some ⟨.head k, n⟩) →
      exec (.meshHold .ap tag body) s = .next ((u.touch (some h) .ap).answered .ap ⟨tag, .done, []⟩))

/-- MESH_GENERATE and MESH_SHIFT past the claim of their examination: a count of 0, a run past the grid or a visible
selector above 2 is INVALID; else the chunk's nodes take the affine position, or their own plus the offset, clamped;
every other node stays; the reply carries the counts and the cursor.
Arrivals inside the chunk are an operand: log 6. -/
def Obligations.MeshGenerateAndShift : Prop :=
  ∀ (p : Port) (h : Head) (start count : Nat) (tag : Byte) (s : State), s.mayEdit p h → fits2 start → fits2 count →
    let inside := 1 ≤ count ∧ start + count ≤ s.setup.nodes
    let m := s.mesh.get h
    let columns := s.setup.columns
    let claimed := { s with mesh := s.mesh.set h (if m.claim = none then
      { m with claim := some ⟨p, 0⟩, lapse := none } else m) }
    m.lapse ≠ some p → m.commitPending = false → (∀ c, m.claim = some c → c.owner = p) →
    (∀ (ou ov cu cv ru rv : Int) (vis : Nat) (during : List Arrival), fits3 ou → fits3 ov → fits3 cu → fits3 cv →
      fits3 ru → fits3 rv → vis < 256 →
      let body := be1 h.toNat ++ be2 start ++ be2 count ++ be3s ou ++ be3s ov ++ be3s cu ++ be3s cv ++ be3s ru ++
        be3s rv ++ be1 vis
      s.hasInHand .meshGenerate p tag body →
      let c := claimed.chunk p count during
      let place := fun (i : Nat) (old : Node) => (⟨
        ou + (((i % columns : Nat) : Int) * cu + ((i / columns : Nat) : Int) * ru + 128) / 256,
        ov + (((i % columns : Nat) : Int) * cv + ((i / columns : Nat) : Int) * rv + 128) / 256,
        if vis = 0 then false else if vis = 1 then true else old.visible⟩ : Node)
      (¬ (inside ∧ vis ≤ 2) → exec (.meshGenerate p tag body during) s =
        .next ((s.answered p ⟨tag, .invalid, []⟩).receiveAll during)) ∧
      (inside → vis ≤ 2 → m.staged.length = s.setup.nodes →
        ∃ (bank : List Node) (clamped : Nat), bank.length = m.staged.length ∧
          (∀ i old, m.staged[i]? = some old → bank[i]? = some
            (if start ≤ i ∧ i < start + c.processed then (place i old).clamp else old)) ∧
          clamped = (List.range c.processed).countP (fun k =>
            let x := place (start + k) (m.staged.getD (start + k) ⟨0, 0, false⟩)
            decide (x.clamp ≠ x)) ∧
          exec (.meshGenerate p tag body during) s = .next ((((c.state.setStaged h bank).touch (some h) p).answered p
            ⟨tag, if c.processed < count then .partialDone else if clamped ≠ 0 then .adjusted else .done,
              be1 h.toNat ++ be2 c.processed ++ be2 clamped ++ be2 (start + c.processed) ++
                be2 (count - c.processed)⟩).receiveAll c.rest))) ∧
    ∀ (du dv : Int) (during : List Arrival), fits3 du → fits3 dv →
      let body := be1 h.toNat ++ be2 start ++ be2 count ++ be3s du ++ be3s dv
      s.hasInHand .meshShift p tag body →
      let c := claimed.chunk p count during
      let moved := fun (old : Node) => (⟨old.u + du, old.v + dv, old.visible⟩ : Node)
      (¬ inside → exec (.meshShift p tag body during) s =
        .next ((s.answered p ⟨tag, .invalid, []⟩).receiveAll during)) ∧
      (inside → m.staged.length = s.setup.nodes →
        ∃ (bank : List Node) (clamped : Nat), bank.length = m.staged.length ∧
          (∀ i old, m.staged[i]? = some old → bank[i]? = some
            (if start ≤ i ∧ i < start + c.processed then (moved old).clamp else old)) ∧
          clamped = (List.range c.processed).countP (fun k =>
            let x := moved (m.staged.getD (start + k) ⟨0, 0, false⟩)
            decide (x.clamp ≠ x)) ∧
          exec (.meshShift p tag body during) s = .next ((((c.state.setStaged h bank).touch (some h) p).answered p
            ⟨tag, if c.processed < count then .partialDone else if clamped ≠ 0 then .adjusted else .done,
              be1 h.toNat ++ be2 c.processed ++ be2 clamped ++ be2 (start + c.processed) ++
                be2 (count - c.processed)⟩).receiveAll c.rest))

/-- MESH_COPY past the claim of its examination: a count of 0, either run past the grid, or a source head or bank
outside its list is INVALID; else it copies the chunk's nodes from the source bank; where the destination lies d
nodes ahead inside the same bank the first d nodes repeat.
Arrivals inside the chunk are an operand: log 6. -/
def Obligations.MeshCopy : Prop :=
  ∀ (p : Port) (h : Head) (source sel start from_ count : Nat) (tag : Byte) (during : List Arrival) (s : State),
    s.mayEdit p h → source < 256 → sel < 256 → fits2 start → fits2 from_ → fits2 count →
    let fits := 1 ≤ count ∧ start + count ≤ s.setup.nodes ∧ source ≤ 3 ∧ sel ≤ 1 ∧ from_ + count ≤ s.setup.nodes
    let m := s.mesh.get h
    let body := be1 h.toNat ++ be2 start ++ be2 count ++ be1 source ++ be1 sel ++ be2 from_
    s.hasInHand .meshCopy p tag body → m.lapse ≠ some p → m.commitPending = false →
    (∀ c, m.claim = some c → c.owner = p) →
    (¬ fits → exec (.meshCopy p tag body during) s =
      .next ((s.answered p ⟨tag, .invalid, []⟩).receiveAll during)) ∧
    ∀ src : Head, fits → source = src.toNat → s.banksLawful →
      let claimed := { s with mesh := s.mesh.set h (if m.claim = none then
        { m with claim := some ⟨p, 0⟩, lapse := none } else m) }
      let c := claimed.chunk p count during
      let bank := if sel = 1 then (s.mesh.get src).staged else (s.mesh.get src).active
      let overlaps := src = h ∧ sel = 1 ∧ from_ < start
      ∃ new : List Node, new.length = m.staged.length ∧
        (∀ i, i < start ∨ start + c.processed ≤ i → new[i]? = m.staged[i]?) ∧
        (∀ k, k < c.processed → new[start + k]? =
          bank[from_ + (if overlaps then k % (start - from_) else k)]?) ∧
        exec (.meshCopy p tag body during) s = .next ((((c.state.setStaged h new).touch (some h) p).answered p
          ⟨tag, if c.processed < count then .partialDone else .done,
            be1 h.toNat ++ be2 c.processed ++ be2 0 ++ be2 (start + c.processed) ++ be2 (count - c.processed) ++
              be2 (from_ + c.processed)⟩).receiveAll c.rest)

/-- Where a chunk ends: at its count, at 512 nodes, or at a multiple of 64 with a request of another port in
the queue; with nothing arriving it runs to the least of its count and 512, or of its count and 64 where
another port waits already.
Arrivals inside the chunk are an operand: log 6. -/
def Obligations.ChunkBound : Prop :=
  ∀ (p : Port) (count : Nat) (during : List Arrival) (s : State), 1 ≤ count →
    let c := s.chunk p count during
    let waits := fun (u : State) => ∃ e ∈ u.queue, e.port ≠ p
    1 ≤ c.processed ∧ c.processed ≤ count ∧ c.processed ≤ 512 ∧
      (c.processed < count → c.processed % 64 = 0 ∧ (c.processed = 512 ∨ waits c.state)) ∧
      (∃ due, during = due ++ c.rest ∧ c.state = s.receiveAll due) ∧
      (during = [] → ¬ waits s → c.processed = min count 512) ∧
      (during = [] → waits s → c.processed = min count 64)

/-- While a commit is pending for a head its STAGED bank does not change, whatever the command: a command that
leaves the commit pending leaves the bank. -/
def Obligations.CommitLocksStaged : Prop :=
  ∀ (c : Instr) (s t : State) (h : Head), exec c s = .next t → s.landingsLawful →
    (s.mesh.get h).commitPending = true → (t.mesh.get h).commitPending = true →
    (t.mesh.get h).staged = (s.mesh.get h).staged ∧ (t.mesh.get h).active = (s.mesh.get h).active

/-- Every step keeps the law that no commit is pending while STOPPED with no save in flight. -/
def Obligations.LandingLawKept : Prop := ∀ s t, step s = .next t → s.landingsLawful → t.landingsLawful

/-- Every step keeps both banks of every head at one node for each node of the grid, each in range, and
keeps a claim and a lapse record from standing together. -/
def Obligations.BankLawsKept : Prop :=
  ∀ s t, step s = .next t → (s.banksLawful → t.banksLawful) ∧ (s.claimsLawful → t.claimsLawful)

/-! ## Transfer tables and settings -/

/-- TABLE_WRITE writes its run clamped into one staged table; TABLE_COMMIT makes a staged table live, or
answers INVALID with the index of the first entry below the one before it; a selector above 4 is INVALID. -/
def Obligations.TableEdits : Prop :=
  (∀ (tag : Byte) (body : List Byte) (s : State), s.hasInHand .tableCommit .ap tag body → s.saving = false →
    4 < u8 body 0 → exec (.tableCommit .ap tag body) s = .next (s.answered .ap ⟨tag, .invalid, []⟩)) ∧
  (∀ (sel start : Nat) (l : List Nat) (tag : Byte) (s : State), sel < 256 → fits2 start → l.length < 119 →
    (∀ x ∈ l, fits2 x) →
    let body := be1 sel ++ be2 start ++ be1 l.length ++ l.flatMap be2
    let passes := sel ≤ 4 ∧ 1 ≤ l.length ∧ l.length ≤ 64 ∧ start + l.length ≤ 257
    s.hasInHand .tableWrite .ap tag body → (∀ k, k ≤ 4 → (s.staged.table k).length = 257) →
    (¬ passes → exec (.tableWrite .ap tag body) s = .next (s.answered .ap ⟨tag, .invalid, []⟩)) ∧
    (passes → ∃ t : Tables, (∀ k, k ≠ sel → t.table k = s.staged.table k) ∧ (t.table sel).length = 257 ∧
      (∀ i, (t.table sel)[i]? = if start ≤ i ∧ i < start + l.length
        then l[i - start]?.map (min (if sel = 0 then 65535 else 4095)) else (s.staged.table sel)[i]?) ∧
      exec (.tableWrite .ap tag body) s = .next (({ s with staged := t }).answered .ap
        ⟨tag, if sel = 0 ∨ ∀ x ∈ l, x ≤ 4095 then .done else .adjusted, []⟩))) ∧
  ∀ (sel : Nat) (tag : Byte) (s : State), sel ≤ 4 → s.hasInHand .tableCommit .ap tag (be1 sel) → s.saving = false →
    (s.staged.table sel).length = 257 →
    let x := fun k => (s.staged.table sel).getD k 0
    ((∀ k, k < 256 → x k ≤ x (k + 1)) → ∃ t : Tables,
      (∀ k, t.table k = if k = sel then s.staged.table sel else s.live.table k) ∧
      exec (.tableCommit .ap tag (be1 sel)) s = .next (({ s with live := t }).answered .ap ⟨tag, .done, []⟩)) ∧
    ∀ k, k < 256 → x (k + 1) < x k → (∀ i, i < k → x i ≤ x (i + 1)) →
      exec (.tableCommit .ap tag (be1 sel)) s = .next (s.answered .ap ⟨tag, .invalid, be2 (k + 1)⟩)

/-- Every step keeps the laws of the transfer tables, the curves, the frame counters, the settings and the pages
of the flash. -/
def Obligations.StoreLawsKept : Prop :=
  ∀ s t, step s = .next t → (s.tablesLawful → t.tablesLawful) ∧ (s.curvesLawful → t.curvesLawful) ∧
    (s.countersLawful → t.countersLawful) ∧ (s.settingsLawful → t.settingsLawful) ∧ (s.flashLawful → t.flashLawful)

/-! ## Source Input and Frame Buffers -/

/-- SOURCE_FRAME_START: the loss timer restarts, the depth is taken, the period is measured between two starts while
LOCKED. The filling step frees the buffer of a frame in flight, which counts as broken, and fills the lowest-numbered
FREE buffer. A lost input acquires. While LOCKED under rate SOURCE the pacing step brings the output frame start, or
the stop where one is pending (log 9), before or after the filling step (log 12).
The interval and the rate under which a period is kept: logs 8 and 32; the width of the first line: log 10. -/
def Obligations.SourceFrameStart : Prop :=
  ∀ (bits : Depth) (interval firstLine : Nat) (s : State), s.buffersLawful →
    let i := s.source
    let start := fun first : Bool => exec (.sourceFrameStart ⟨bits, firstLine⟩ interval first) s
    let passed := match i.lossTimer with
      | some n => interval - n
      | none => 0
    let gap := max interval (i.lossTimer.getD 0)
    let noted := { s.elapse passed with
      measured := if i.state = .locked ∧ i.prevStartLocked = true then some (max 50000 (min gap 125125)) else s.measured
      source := { i with lossTimer := some 0, bits := some bits, prevStartLocked := decide (i.state = .locked) } }
    let fills := fun a b : State => ∃ before rest,
      a.buffers.toList.map (fun x => match x with
        | .filling _ => .free
        | x => x) = before ++ Buffer.free :: rest ∧ Buffer.free ∉ before ∧
      b.buffers.toList = before ++ Buffer.filling firstLine :: rest ∧
      b = { a with
        buffers := b.buffers
        broken := if a.buffers.any Buffer.isFilling = true then min (a.broken + 1) 65535 else a.broken }
    let paces := fun a b : State =>
      (∀ p e, p ≠ .fixed → a.timing = .running p false e →
        b = ({ a with timing := .running .following false 0 }).outputFrameStart) ∧
      (∀ p e, p ≠ .fixed → a.timing = .running p true e → b = a.stopOutput) ∧
      (a.timing = .stopped ∨ (∃ f e, a.timing = .running .fixed f e) → b = a)
    (i.state = .locked →
      (∃ v t, paces noted v ∧ fills v t ∧ start true = .next t) ∧
      ∃ v t, fills noted v ∧ paces v t ∧ start false = .next t) ∧
    ∀ first, ∃ v, fills noted v ∧
      (i.state = .unsupported → start first = .next v) ∧
      (i.state = .acquiring → start first = .next { v with source := { v.source with
        runCount := if s.buffers.any Buffer.isFilling = true then 0 else i.runCount } }) ∧
      (i.state = .noSignal → start first = .next (({ v with
        source := { v.source with state := .acquiring, runCount := 0 } }).withNotices (BitVec.ofNat 19 (2 ^ 16)))) ∧
      (i.state = .holding ∨ i.state = .black → start first = .next (({ v with
        source := { v.source with state := .acquiring, runCount := 0, holdCount := 0 } }).withNotices
          (BitVec.ofNat 19 (2 ^ 16))))

/-- SOURCE_FRAME_END of a frame in flight by outcome and input state, and SOURCE_LOSS by input state.
A loss lets time pass to its moment: log 2. -/
def Obligations.SourceFrameEndAndLoss : Prop :=
  (∀ (w h : Nat) (lines : List (List Rgb)) (s : State), s.buffers.any Buffer.isFilling = true →
    lines.length = h → 1 ≤ h → (∀ l ∈ lines, l.length = w) →
    let i := s.source
    let freed := s.buffers.map Buffer.cut
    let shown := s.buffers.map (Buffer.finish ⟨⟨w, h⟩, lines.map (·.map (widenPixel (i.bits.getD .d12)))⟩)
    let dropped := if s.running = true ∧ ∃ b ∈ s.buffers.toList, b.isReady = true then bump s.dropped else s.dropped
    let changed := BitVec.ofNat 19 (2 ^ 16)
    let fits := 640 ≤ w ∧ w ≤ 4096 ∧ 360 ≤ h ∧ h ≤ 2304
    (fits → i.state = .locked → i.locked = some ⟨w, h⟩ →
      exec (.sourceFrameEnd lines) s = .next { s with buffers := shown, dropped := dropped }) ∧
    (fits → i.state = .acquiring → i.runCount = 1 → i.candidate = some ⟨w, h⟩ → exec (.sourceFrameEnd lines) s =
      .next (({ s with
        buffers := shown
        dropped := dropped
        source := { i with state := .locked, locked := some ⟨w, h⟩, runCount := 0 } }).withNotices changed)) ∧
    (fits → i.state = .acquiring → ¬ (i.runCount = 1 ∧ i.candidate = some ⟨w, h⟩) → exec (.sourceFrameEnd lines) s =
      .next { s with buffers := freed, source := { i with candidate := some ⟨w, h⟩, runCount := 1 } }) ∧
    (fits → (i.state = .locked ∧ i.locked ≠ some ⟨w, h⟩) ∨ i.state = .unsupported →
      exec (.sourceFrameEnd lines) s = .next (({ s with
        buffers := freed
        source := { i with state := .acquiring, candidate := some ⟨w, h⟩, runCount := 1 } }).withNotices changed)) ∧
    (fits → i.state = .noSignal ∨ i.state = .holding ∨ i.state = .black →
      exec (.sourceFrameEnd lines) s = .next { s with buffers := freed }) ∧
    (¬ fits → i.state = .locked → exec (.sourceFrameEnd lines) s = .next (({ s with
        buffers := freed
        source := { i with state := .unsupported, outOfRange := some ⟨w, h⟩ } }).withNotices changed)) ∧
    (¬ fits → i.state = .acquiring → exec (.sourceFrameEnd lines) s = .next (({ s with
        buffers := freed
        source := { i with state := .unsupported, outOfRange := some ⟨w, h⟩, runCount := 0 } }).withNotices
          changed)) ∧
    (¬ fits → i.state = .unsupported ∨ i.state = .noSignal ∨ i.state = .holding ∨ i.state = .black →
      exec (.sourceFrameEnd lines) s = .next { s with
        buffers := freed
        source := { i with outOfRange := some ⟨w, h⟩ } })) ∧
  (∀ (lines : List (List Rgb)) (s : State), s.buffers.any Buffer.isFilling = true →
    (lines = [] ∨ ∃ a ∈ lines, ∃ b ∈ lines, a.length ≠ b.length) →
    exec (.sourceFrameEnd lines) s = .next { s with
      buffers := s.buffers.map Buffer.cut
      broken := bump s.broken
      source := { s.source with runCount := if s.source.state = .acquiring then 0 else s.source.runCount } }) ∧
  ∀ (n : Nat) (s : State), s.source.lossTimer = some n →
    let u := s.elapse (300000 - n)
    let changed := BitVec.ofNat 19 (2 ^ 16)
    let v := { u with
      buffers := s.buffers.map Buffer.cut
      broken := if s.buffers.any Buffer.isFilling = true then bump s.broken else s.broken
      source := { s.source with lossTimer := none } }
    (s.source.state = .locked → exec .sourceLoss s = .next (({ v with
      source := { v.source with
        state := if s.source.holdTime = 0 then .black else .holding
        holdCount := 0 } }).withNotices changed)) ∧
    (s.source.state = .acquiring → exec .sourceLoss s = .next (({ v with
      source := { v.source with state := .noSignal, candidate := none, runCount := 0 } }).withNotices changed)) ∧
    (s.source.state = .unsupported → exec .sourceLoss s = .next (({ v with
      source := { v.source with state := .noSignal } }).withNotices changed)) ∧
    (s.source.state = .noSignal ∨ s.source.state = .holding ∨ s.source.state = .black → exec .sourceLoss s = .next v)

/-- Every step keeps the law of the buffers, at most one FILLING, one READY and one SHOWN, each frame of a
supported size with 12-bit codes; and the law of the views, none while STOPPED and otherwise all or none. -/
def Obligations.BufferLawsKept : Prop :=
  ∀ s t, step s = .next t → (s.buffersLawful → t.buffersLawful) ∧ (s.viewsLawful → t.viewsLawful)

/-! ## Layouts, notices, restart -/

/-- LAYOUT_APPLY with no save in flight: an unknown preset is INVALID, and a used head claimed by a head port or
pending is BUSY; else used heads are enabled with the tiles of their places, the others disabled, the contributions
re-derived where a flag changed, the seams replaced by the bands of the preset, settled at their targets, and a flat
mesh committed on each used head. -/
def Obligations.LayoutApply : Prop :=
  ∀ (id overlap : Nat) (tag : Byte) (s : State), id < 256 → overlap < 256 →
    s.hasInHand .layoutApply .ap tag (be1 id ++ be1 overlap) → s.saving = false →
    (5 < id → exec (.layoutApply .ap tag (be1 id ++ be1 overlap)) s = .next (s.answered .ap ⟨tag, .invalid, []⟩)) ∧
    (id ≤ 5 → ∃ q, preset? id = some q ∧
      let p := max 4 (min overlap 24)
      let span := fun lc n : Nat => 64 * lc / (64 * n - (n - 1) * p)
      let pitch := fun lc n : Nat => span lc n - span lc n * p / 64
      let first := fun lc n m : Nat => if n = 1 then 0 else m * pitch lc n
      let last := fun lc n m : Nat => if m = n - 1 then lc - 1 else m * pitch lc n + span lc n - 1
      let tile := fun x : PresetHead => Tile.mk (first 4096 q.nc x.column) (last 4096 q.nc x.column)
        (first 2304 q.nr x.row) (last 2304 q.nr x.row)
      let band := fun x : PresetSeam =>
        let lc := if x.orientation = .vertical then 4096 else 2304
        let n := if x.orientation = .vertical then q.nc else q.nr
        SeamGeometry.mk x.orientation x.falling x.rising ((x.place + 1) * pitch lc n)
          (x.place * pitch lc n + span lc n - 1) 1
      let used := fun h : Head => ∃ x ∈ q.heads, x.head = h
      let blocked := ∃ x ∈ q.heads, (s.mesh.get x.head).commitPending = true ∨
        ∃ k n, (s.mesh.get x.head).claim = some ⟨.head k, n⟩
      (blocked → exec (.layoutApply .ap tag (be1 id ++ be1 overlap)) s = .next (s.answered .ap ⟨tag, .busy, []⟩)) ∧
      (¬ blocked → ∃ t : State,
        exec (.layoutApply .ap tag (be1 id ++ be1 overlap)) s = .next (t.answered .ap
          ⟨tag, if p = overlap then .done else .adjusted, be1 id ++ be1 p⟩) ∧
        (∀ x ∈ q.heads, t.heads.get x.head = { s.heads.get x.head with enabled := true, tile := tile x } ∧
          let flat := flatMesh s.setup (tile x)
          t.mesh.get x.head = (if s.running then
              { s.mesh.get x.head with staged := flat, claim := none, commitPending := true }
            else { s.mesh.get x.head with active := flat, staged := flat, claim := none })) ∧
        (∀ h, ¬ used h → t.heads.get h = { s.heads.get h with enabled := false } ∧ t.mesh.get h = s.mesh.get h) ∧
        (∀ h, let m := s.monitor.get h
          ((t.heads.get h).enabled = (s.heads.get h).enabled → t.monitor.get h = m) ∧
          ((t.heads.get h).enabled ≠ (s.heads.get h).enabled → t.monitor.get h = { m with
            contributes := decide ((t.heads.get h).enabled = true ∧ m.sink = true ∧ m.light = .on ∧
              (m.presence = .notWatched ∨ m.presence.code = 2)) })) ∧
        (∀ x ∈ q.seams, ∃ m, t.seams.get x.slot = some ⟨band x, .auto, 2, 48, m, m, none⟩ ∧
          m = Pin.auto.target (t.contributes x.falling) (t.contributes x.rising) .shared) ∧
        (∀ sl, (∀ x ∈ q.seams, x.slot ≠ sl) → t.seams.get sl = none) ∧
        s.noticed t (fun k => (∃ h, t.contributes h ≠ s.contributes h ∧ k = 8 + h.toNat) ∨
          (s.running = false ∧ ∃ h, used h ∧ k = h.toNat)) ∧
        t = { s with
          heads := t.heads
          monitor := t.monitor
          seams := t.seams
          mesh := t.mesh
          ports := t.ports }))

/-- The attention line of a port is active exactly while its set and its mask share a kind; NOTICE_READ
carries the sender's set and empties it; NOTICE_MASK replaces the sender's mask, or is INVALID with a bit
above 18. -/
def Obligations.NoticesAndMasks : Prop :=
  (∀ (s : State) p, s.attention p = true ↔ ∃ k, k < 19 ∧ (s.ports.get p).notices.getLsbD k = true ∧
    (s.ports.get p).mask.getLsbD k = true) ∧
  (∀ p tag s, s.hasInHand .noticeRead p tag [] →
    exec (.noticeRead p tag []) s = .next (({ s with
      ports := s.ports.set p { s.ports.get p with notices := 0 } }).answered p
        ⟨tag, .done, be3 (s.ports.get p).notices.toNat⟩)) ∧
  (∀ p tag n s, n < 16777216 → s.hasInHand .noticeMask p tag (be3 n) →
    (n < 524288 → exec (.noticeMask p tag (be3 n)) s = .next (({ s with
      ports := s.ports.set p { s.ports.get p with mask := BitVec.ofNat 19 n } }).answered p ⟨tag, .done, be3 n⟩)) ∧
    (524288 ≤ n → exec (.noticeMask p tag (be3 n)) s = .next (s.answered p ⟨tag, .invalid, []⟩))) ∧
  ∀ p r (s : State) q, (s.answered p r).attention q = s.attention q

/-- RESTART: every queued request is answered ABORTED on its port, claims, commits, lapse records, fades,
staged tables and counters are cleared, a save is aborted with its flash operation still under way, every notice
set holds STARTED, with SAVE_FINISHED where a save was aborted, and all else stays. -/
def Obligations.RestartEffect : Prop :=
  ∀ (tag : Byte) (s : State), s.hasInHand .restart .ap tag [] → ∃ t : State,
    exec (.restart .ap tag []) s = .next (t.answered .ap ⟨tag, .done, []⟩) ∧
    (∀ p, t.ports.get p = { s.ports.get p with
      replies := (s.ports.get p).replies ++
        (s.queue.filter (fun e => e.port == p)).map (fun e => ⟨e.tag, .aborted, []⟩)
      notices := if s.saving then BitVec.ofNat 19 (2 ^ 18 + 2 ^ 17) else BitVec.ofNat 19 (2 ^ 18) }) ∧
    (∀ h, t.mesh.get h = ⟨(s.mesh.get h).active, (s.mesh.get h).active, none, false, none⟩) ∧
    (∀ h, (∀ n, (s.monitor.get h).presence = .present n →
        t.monitor.get h = { s.monitor.get h with presence := .present 0 }) ∧
      ((∀ n, (s.monitor.get h).presence ≠ .present n) → t.monitor.get h = s.monitor.get h)) ∧
    (∀ sl, (s.seams.get sl = none → t.seams.get sl = none) ∧
      ∀ q, s.seams.get sl = some q → (q.fade = none → t.seams.get sl = some q) ∧
        ∀ f, q.fade = some f →
          t.seams.get sl = some { q with mode := f.dst, target := f.dst, fade := none }) ∧
    (s.saving = true → t.save = .aborted ∧ t.flashTimer = none ∧
      (∀ op, s.abortedOp = some op → t.abortedOp = some op) ∧
      (s.abortedOp = none →
        (∀ k, s.save = .erasing k → t.abortedOp = some (.erase k)) ∧
        (∀ k, s.save = .writingBody k →
          t.abortedOp = some (.program (k + 1) ((s.image.drop (256 + 256 * k)).take 256))) ∧
        (s.save = .writingHeader → t.abortedOp = some (.program 0 (s.image.take 256))) ∧
        ∀ got, s.save = .verifying got → t.abortedOp = some .read)) ∧
    (s.saving = false → t.save = s.save ∧ t.abortedOp = s.abortedOp ∧ t.flashTimer = s.flashTimer) ∧
    t = { s with
      ports := t.ports
      queue := []
      mesh := t.mesh
      monitor := t.monitor
      seams := t.seams
      staged := s.live
      dropped := 0
      repeated := 0
      broken := 0
      save := t.save
      abortedOp := t.abortedOp
      flashTimer := t.flashTimer }

/-! ## Stored calibration -/

/-- The commands of the cold start: COLD_RESET, after which every block but the flash stands at its reset value; the
answers of the flash phase by phase; what an accepted image leaves in the blocks; the timeout; and how a cold start
ends. A reset that cuts a save off in ERASING or WRITING_BODY leaves no marker, and the header then reads as
absent.
What the model chose here: logs 2, 13, 14, 15, 16, 23, 27, 31, 33 and 37. -/
def Obligations.ColdStart : Prop :=
  (∀ straps s, ∃ flash : Flash,
    exec (.coldReset straps) s = .next { State.reset with
      baud := straps
      monitor := Quad.ofFn fun h => let line := (s.monitor.get h).line
        ⟨.notWatched, .on, false, line, if line then some 0 else none, false⟩
      flash := flash
      pending := s.pending } ∧
    flash.pages.length = s.flash.pages.length ∧
    let cutOff := ∃ k, s.save = .erasing k ∨ s.save = .writingBody k
    (¬ cutOff → flash = s.flash) ∧
    (cutOff → ∀ n, n < s.flash.pages.length → flash.page n = if n < 16 then .erased else s.flash.page n)) ∧
  (∀ ident s, s.startPhase = .probe →
    ((∃ b ∈ ident, b ≠ 0xFF) →
      exec (.flashIdentifyAnswered ident) s = .next { s with startPhase := .header, flashTimer := some 0 }) ∧
    ((∀ b ∈ ident, b = 0xFF) → exec (.flashIdentifyAnswered ident) s = .next s)) ∧
  (∀ (bytes : List Byte) (failed : Bool) s, s.startPhase = .header → 12 ≤ bytes.length →
    s.flash.page 0 = .erased → exec (.headerReadAnswered ⟨bytes, failed⟩) s = .next (s.endColdStart 0x12 .none)) ∧
  (∀ (bytes marker : List Byte) (failed : Bool) (format length check : Nat) (rest : List Byte) s,
    s.startPhase = .header → marker.length = 4 → fits2 format → length < 4294967296 → fits2 check →
    s.flash.returns failed 0 bytes (marker ++ be2 format ++ be4 length ++ be2 check ++ rest) →
    let answer := exec (.headerReadAnswered ⟨bytes, failed⟩) s
    (marker ≠ [0x5A, 0xC3, 0x3C, 0xA5] → answer = .next (s.endColdStart 0x12 .none)) ∧
    (marker = [0x5A, 0xC3, 0x3C, 0xA5] → format ≠ 1 ∨ 130816 < length →
      answer = .next (s.endColdStart 0x14 .invalid)) ∧
    (marker = [0x5A, 0xC3, 0x3C, 0xA5] → format = 1 → 1 ≤ length → length ≤ 130816 → answer = .next { s with
      startPhase := .body length (BitVec.ofNat 16 check) []
      flashTimer := some 0 }) ∧
    (marker = [0x5A, 0xC3, 0x3C, 0xA5] → format = 1 → length = 0 → answer = .next
      (s.endColdStart (if check = (crc []).toNat then 0x14 else 0x13) .invalid))) ∧
  (∀ length check got bytes read (failed : Bool) s, s.startPhase = .body length check got → bytes ≠ [] →
    s.flash.returns failed (256 + got.length) bytes read →
    let all := (got ++ read).take length
    let answer := exec (.bodyReadAnswered ⟨bytes, failed⟩) s
    ((got ++ read).length < length →
      answer = .next { s with startPhase := .body length check (got ++ read), flashTimer := some 0 }) ∧
    (length ≤ (got ++ read).length → crc all ≠ check → answer = .next (s.endColdStart 0x13 .invalid)) ∧
    (length ≤ (got ++ read).length → crc all = check → readImage all = none →
      answer = .next (s.endColdStart 0x14 .invalid)) ∧
    ∀ m, length ≤ (got ++ read).length → crc all = check → readImage all = some m → ∃ t : State,
      answer = .next (t.endColdStart 0x10 .valid) ∧
      (∀ h, t.mesh.get h = ⟨m.banks.get h, m.banks.get h, none, false, none⟩) ∧
      (∀ h, let r := m.heads.get h
        t.monitor.get h = { s.monitor.get h with
          presence := if r.period = .off then .notWatched else .absent
          contributes := r.enabled && (s.monitor.get h).sink && decide ((s.monitor.get h).light = .on) &&
            decide (r.period = .off) }) ∧
      (∀ sl, (m.seams.get sl = none → t.seams.get sl = none) ∧ ∀ q, m.seams.get sl = some q →
        let x := q.pin.target (t.contributes q.geo.falling) (t.contributes q.geo.rising) .shared
        t.seams.get sl = some ⟨q.geo, q.pin, q.nOut, q.nIn, x, x, none⟩) ∧
      s.noticed t (fun k => ∃ h, t.contributes h ≠ s.contributes h ∧ k = 8 + h.toNat) ∧
      t = { s with
        setup := m.setup
        heads := m.heads
        mesh := t.mesh
        monitor := t.monitor
        seams := t.seams
        curves := m.curves
        live := m.tables
        staged := m.tables
        source := { s.source with holdTime := m.holdTime }
        ports := t.ports }) ∧
  (∀ n s, s.started = false → s.flashTimer = some n →
    exec .startupFlashTimeout s = .next ((s.elapse (3000000 - n)).endColdStart 0x11 .none)) ∧
  ∀ code stored (s : State),
    let t := ({ s with startCode := code, startPhase := .ended, stored := stored, flashTimer := none }).withNotices
      (BitVec.ofNat 19 (2 ^ 18))
    let starts := s.setup.autoStart = true ∧ s.timing = .stopped
    (¬ starts → s.endColdStart code stored = t) ∧
    (starts → (∃ f, s.setup.rate = .fixed f) →
      s.endColdStart code stored = ({ t with timing := .running .fixed false 0 }).outputFrameStart) ∧
    (starts → s.setup.rate = .source → s.source.state = .locked →
      s.endColdStart code stored = { t with timing := .running .following false 0 }) ∧
    (starts → s.setup.rate = .source → s.source.state ≠ .locked →
      s.endColdStart code stored = ({ t with timing := .running .freeRunning false 0 }).outputFrameStart)

/-- SAVE and the commands of a save: each phase begins when the last ended and issues its flash operation, a byte
that differs or a timeout ends it, its end raises SAVE_FINISHED and lands pending commits while STOPPED.
What the model chose here: logs 2, 15, 22, 30, 31 and 37. -/
def Obligations.SavePhases : Prop :=
  (∀ (f : Flash) sector n x, f.pages.length = (f.eraseSector sector).pages.length ∧
    f.pages.length = (f.setPage n x).pages.length ∧ ∀ m, m < f.pages.length →
      (f.eraseSector sector).page m = (if m / 16 = sector then .erased else f.page m) ∧
      (f.setPage n x).page m = if m = n then x else f.page m) ∧
  (∀ tag s, s.hasInHand .save .ap tag [] → s.saving = false →
    exec (.save .ap tag []) s = .next (({ s with
      save := .erasing 0
      stored := .invalid
      image := imageHeader s.toImage.body ++ s.toImage.body
      flashTimer := some 0
      flash := if s.abortedOp = none then s.flash.eraseSector 0 else s.flash }).answered .ap ⟨tag, .done, []⟩)) ∧
  (∀ k s, s.save = .erasing k → s.abortedOp = none →
    ((k + 1) * 4096 < s.image.length → exec .saveEraseDone s = .next { s with
      save := .erasing (k + 1)
      flashTimer := some 0
      flash := s.flash.eraseSector (k + 1) }) ∧
    (s.image.length ≤ (k + 1) * 4096 → exec .saveEraseDone s = .next { s with
      save := .writingBody 0
      flashTimer := some 0
      flash := s.flash.setPage 1 .unknown })) ∧
  (∀ k s, s.save = .writingBody k → 256 ≤ s.image.length →
    let written := s.flash.setPage (k + 1) (.programmed ((s.image.drop (256 + 256 * k)).take 256))
    (256 + (k + 1) * 256 < s.image.length → exec .savePageProgrammed s = .next { s with
      save := .writingBody (k + 1)
      flashTimer := some 0
      flash := written.setPage (k + 2) .unknown }) ∧
    (s.image.length ≤ 256 + (k + 1) * 256 → exec .savePageProgrammed s = .next { s with
      save := .writingHeader
      flashTimer := some 0
      flash := written.setPage 0 .unknown })) ∧
  (∀ s, s.save = .writingHeader → exec .saveHeaderProgrammed s = .next { s with
    save := .verifying []
    flashTimer := some 0
    flash := s.flash.setPage 0 (.programmed (s.image.take 256)) }) ∧
  (∀ got bytes read (failed : Bool) s, s.save = .verifying got → bytes ≠ [] →
    s.flash.returns failed got.length bytes read →
    let whole := (got ++ read).take s.image.length
    let answer := exec (.saveVerifyRead ⟨bytes, failed⟩) s
    (¬ whole <+: s.image → answer = .next (s.endSave .failedVerify)) ∧
    (whole <+: s.image → whole.length < s.image.length →
      answer = .next { s with save := .verifying whole, flashTimer := some 0 }) ∧
    (whole = s.image → (crc (s.image.drop 256)).toNat = u16 s.image 10 →
      answer = .next (({ s with stored := .valid }).endSave .ok)) ∧
    (whole = s.image → (crc (s.image.drop 256)).toNat ≠ u16 s.image 10 →
      answer = .next (s.endSave .failedVerify))) ∧
  (∀ n s, s.saving = true → s.flashTimer = some n →
    exec .saveFlashTimeout s = .next ((s.elapse (3000000 - n)).endSave .failedTimeout)) ∧
  (∀ op s, s.abortedOp = some op →
    let left := match op with
      | .program n l => s.flash.setPage n (.programmed l)
      | .erase _ => s.flash
      | .read => s.flash
    (s.saving = false →
      exec .abortedFlashOperationEnd s = .next { s with abortedOp := none, flash := left }) ∧
    ∀ k, s.save = .erasing k → exec .abortedFlashOperationEnd s =
      .next { s with abortedOp := none, flash := left.eraseSector k }) ∧
  ∀ x (s : State), x.inFlight = false → let t := s.endSave x
    let lands := fun h : Head => (s.mesh.get h).commitPending = true ∧ s.running = false
    (∀ h, (lands h → t.mesh.get h =
        { s.mesh.get h with active := (s.mesh.get h).staged, claim := none, commitPending := false }) ∧
      (¬ lands h → t.mesh.get h = s.mesh.get h)) ∧
    s.noticed t (fun k => k = 17 ∨ ∃ h, lands h ∧ k = h.toNat) ∧
    t = { s with save := x, flashTimer := none, mesh := t.mesh, ports := t.ports }

/-- The stored image reads back as it was written: for every lawful image, the body SAVE writes is read by
the cold start as that image. -/
def Obligations.ImageRoundTrip : Prop := ∀ m : Image, m.lawful → readImage m.body = some m

/-! ## The pixel computation -/

/-- From a pixel of the raster to the value sent, over frame views on a grid with steps of 64 or 128: what a head
sends by its overrides (R101), the cell and the position of a pixel (R102 to R104), the canvas and the tile (R105,
R106), the sample (R107, R108), the decode and the encode between two entries of a table (R109, R115), the lift
(R113, R114), the test patterns (R130 to R134), and the raster the link carries (R100). -/
def Obligations.PixelStages : Prop :=
  ∀ w : FrameView, w.s = 64 ∨ w.s = 128 →
    let black := Rgb.mk 0 0 0
    let inCell := fun n x c f : Nat => c * w.s + f = x ∧ c + 1 < n ∧ f ≤ w.s ∧ (f = w.s → c + 2 = n)
    let mean := fun (fx fy : Nat) (c00 c10 c01 c11 : Int) =>
      (c00 * ((w.s : Int) - fx) * ((w.s : Int) - fy) + c10 * fx * ((w.s : Int) - fy) +
        c01 * ((w.s : Int) - fx) * fy + c11 * fx * fy + ((w.s * w.s / 2 : Nat) : Int)) / ((w.s * w.s : Nat) : Int)
    let stripe := fun (n x : Nat) => ∃ c, c < n ∧ c * w.s ≤ x + 1 ∧ x ≤ c * w.s + 1
    (∀ x y,
      (w.enabled = false → w.pixel x y = black) ∧
      (w.mode = .muted → w.pixel x y = black) ∧
      (w.enabled = true → w.mode = .live → w.position x y = none → w.pixel x y = black) ∧
      ∀ q, w.enabled = true → w.mode = .live → w.position x y = some q → w.pixel x y = w.finish q (w.sample q)) ∧
    (∀ x, 2 ≤ w.w → x < w.w → ∃ c f, inCell w.columns x c f) ∧
    (∀ y, 2 ≤ w.h → y < w.h → ∃ c f, inCell w.rows y c f) ∧
    (∀ x y i fx j fy, inCell w.columns x i fx → inCell w.rows y j fy →
      let n00 := w.node i j
      let n10 := w.node (i + 1) j
      let n01 := w.node i (j + 1)
      let n11 := w.node (i + 1) (j + 1)
      let u := mean fx fy n00.u n10.u n01.u n11.u
      let v := mean fx fy n00.v n10.v n01.v n11.v
      let shows := (n00.visible && n10.visible && n01.visible && n11.visible) = true
      let inside := 0 ≤ u ∧ u ≤ 65520 ∧ 0 ≤ v ∧ v ≤ 36848 ∧ 16 * (w.tile.x0 : Int) ≤ u ∧ u ≤ 16 * (w.tile.x1 : Int) ∧
        16 * (w.tile.y0 : Int) ≤ v ∧ v ≤ 16 * (w.tile.y1 : Int)
      (shows ∧ inside → w.position x y = some ⟨u, v⟩) ∧
      (¬ (shows ∧ inside) → w.position x y = none) ∧
      (fx = 0 → fy = 0 → u = n00.u ∧ v = n00.v) ∧
      ∀ lo hi : Int, (∀ n ∈ [n00, n10, n01, n11], lo ≤ n.u ∧ n.u ≤ hi) → lo ≤ u ∧ u ≤ hi) ∧
    (∀ (q : Position) ch,
      (w.source = none → w.sample q ch = 0) ∧
      (w.input = .noSignal ∨ w.input = .unsupported ∨ w.input = .black → w.sample q ch = 0) ∧
      ∀ (f : SourceFrame) (u v xi yi ax ay : Nat), w.source = some f →
        w.input = .acquiring ∨ w.input = .locked ∨ w.input = .holding → q = ⟨u, v⟩ →
        16 * xi + ax = u * f.size.w / 4096 → ax < 16 → 16 * yi + ay = v * f.size.h / 2304 → ay < 16 →
        let code := fun x y => onChannel ((f.lines.getD y []).getD x black) ch
        let xr := min (xi + 1) (f.size.w - 1)
        let yl := min (yi + 1) (f.size.h - 1)
        w.sample q ch = (code xi yi * (16 - ax) * (16 - ay) + code xr yi * ax * (16 - ay) +
          code xi yl * (16 - ax) * ay + code xr yl * ax * ay + 128) / 256 ∧
        (u ≤ 65520 → v ≤ 36848 → 1 ≤ f.size.w → 1 ≤ f.size.h → xi < f.size.w ∧ yi < f.size.h) ∧
        ∀ top, code xi yi ≤ top → code xr yi ≤ top → code xi yl ≤ top → code xr yl ≤ top → w.sample q ch ≤ top) ∧
    (∀ (table : List Nat) (x k g : Nat),
      let lo := table.getD k 0
      let hi := table.getD (k + 1) 0
      lo ≤ hi →
      (x = 16 * k + g → g < 16 → decodeStep table x = lo + ((hi - lo) * g + 8) / 16 ∧
        lo ≤ decodeStep table x ∧ decodeStep table x ≤ hi) ∧
      (x = 256 * k + g → g < 256 → encodeStep table x = lo + ((hi - lo) * g + 128) / 256 ∧
        lo ≤ encodeStep table x ∧ encodeStep table x ≤ hi)) ∧
    (∀ ch n, w.lift 0 ch = onChannel w.lift0 ch ∧ w.lift 1 ch = onChannel w.lift1 ch ∧ w.lift (n + 2) ch = 0) ∧
    (∀ l k lw, l ≤ 65535 → lw ≤ 65535 →
      let lo := liftStep l k lw
      (k = 0 → lo = 0) ∧
      (k ≠ 0 → l ≤ lo ∧ lo ≤ 65535 ∧ 65535 * (lo - l) ≤ lw * (65535 - l) + 32767 ∧
        lw * (65535 - l) < 65535 * (lo - l) + 32768 ∧ (lw = 0 → lo = l) ∧ (l = 0 → lo = lw))) ∧
    (∀ x y, w.enabled = true →
      let all := fun code => Rgb.mk code code code
      let dim := fun l => all (depthStep w.depth l)
      (∀ c, w.mode = .pattern (.rawFlat c) →
        w.pixel x y = ⟨depthStep w.depth c.r, depthStep w.depth c.g, depthStep w.depth c.b⟩) ∧
      (∀ l, w.mode = .pattern (.rawGrid l) →
        let line := w.s ∣ x ∨ w.s ∣ y ∨ x = w.w - 1 ∨ y = w.h - 1
        (line → w.pixel x y = dim l) ∧ (¬ line → w.pixel x y = dim 0)) ∧
      (∀ l, w.mode = .pattern (.rawDots l) →
        (stripe w.columns x ∧ stripe w.rows y → w.pixel x y = dim l) ∧
        (¬ (stripe w.columns x ∧ stripe w.rows y) → w.pixel x y = dim 0)) ∧
      (∀ z l, w.mode = .pattern (.canvasGrid z l) →
        (w.position x y = none → w.pixel x y = black) ∧
        ∀ u v : Nat, w.position x y = some ⟨u, v⟩ →
          (z ∣ u / 16 ∨ z ∣ v / 16 → w.pixel x y = w.finish ⟨u, v⟩ fun _ => l) ∧
          (¬ (z ∣ u / 16 ∨ z ∣ v / 16) → w.pixel x y = w.finish ⟨u, v⟩ fun _ => 0)) ∧
      (w.mode = .pattern .weightView →
        (w.position x y = none → w.pixel x y = black) ∧
        ∀ q, w.position x y = some q →
          w.pixel x y = all (depthStep w.depth (encodeStep w.encode (w.weight q * 65535 / 4096))))) ∧
    ∀ (s : State) (h : Head), (s.views.get h = none → s.outputFrame h = none ∧ ∀ x y, s.outputPixel h x y = none) ∧
      (s.views.get h = some w → ∃ lines, s.outputFrame h = some lines ∧ lines.length = w.h ∧
        (∀ l ∈ lines, l.length = w.w) ∧
        ∀ x y, (lines[y]?.bind (·[x]?)) = s.outputPixel h x y ∧
          (x < w.w → y < w.h → s.outputPixel h x y = some (w.pixel x y)))

/-- The weight of a pixel: 4,096 in no band, the factor of the one seam that contains it, or the truncated
product of two; no greater than either factor, and a factor of 4,096 leaves the other. It is formed once and
used for all three channels. A factor is the rising head's or what it leaves of 4,096: the ramp value, interpolated
between two entries of the curve, through the mode, or mixed between the modes of the fade; on a lawful curve and fade
it lies in 0..4,096. -/
def Obligations.WeightOfBands : Prop :=
  (∀ (g : SeamGeometry) (curves : Curves) (x : Int), curveOk (curves.curve g.curve) = true → g.a + 16 ≤ g.b →
    16 * (g.a : Int) ≤ x → x ≤ 16 * g.b →
    let entry := fun k => (curves.curve g.curve).getD k 0
    let c := g.ramp curves x
    (∃ r : Nat, r ≤ 4096 ∧ r * (16 * ((g.b : Int) - g.a)) ≤ (x - 16 * g.a) * 4096 ∧
      (x - 16 * g.a) * 4096 < (r + 1) * (16 * ((g.b : Int) - g.a)) ∧ (r = 4096 → c = entry 64) ∧
      ∀ k f, r = 64 * k + f → f < 64 → k < 64 →
        c = entry k + ((entry (k + 1) - entry k) * f + 32) / 64 ∧ entry k ≤ c ∧ c ≤ entry (k + 1)) ∧
    c ≤ 4096 ∧ (x = 16 * g.a → c = 0) ∧ (x = 16 * g.b → c = 4096) ∧
    (∀ y, x ≤ y → y ≤ 16 * g.b → c ≤ g.ramp curves y) ∧
    ∀ k : SeamLook, (∀ f, k.fade = some f → f.k < f.n) → k.risingFactor c ≤ 4096) ∧
  (∀ (k : SeamLook) (c : Nat),
    let value := fun m : SeamMode => match m with
      | .shared => c
      | .soloRising => 4096
      | .soloFalling => 0
    (k.fade = none → k.risingFactor c = value k.mode) ∧
    ∀ f, k.fade = some f → k.risingFactor c = (value f.src * (f.n - f.k) + value f.dst * f.k) / f.n ∧
      (f.k < f.n → min (value f.src) (value f.dst) ≤ k.risingFactor c ∧
        k.risingFactor c ≤ max (value f.src) (value f.dst))) ∧
  (∀ (g : SeamGeometry) (k : SeamLook) (curves : Curves) (h : Head) (x : Int),
    (h = g.rising → g.factor k curves h x = k.risingFactor (g.ramp curves x)) ∧
    (h ≠ g.rising → g.factor k curves h x = 4096 - k.risingFactor (g.ramp curves x))) ∧
  ∀ (w : FrameView) (q : Position),
    let gives := fun (sl : Slot) (f : Nat) => ∃ g k, w.geometry.get sl = some g ∧ w.looks.get sl = some k ∧
      g.names w.head = true ∧ 16 * (g.a : Int) ≤ q.along g.orientation ∧ q.along g.orientation ≤ 16 * g.b ∧
      f = g.factor k w.curves w.head (q.along g.orientation)
    ((∀ sl f, ¬ gives sl f) → w.weight q = 4096) ∧
    (∀ sl f, gives sl f → (∀ i x, i ≠ sl → ¬ gives i x) → w.weight q = f) ∧
    (∀ sl sl' f f', sl ≠ sl' → gives sl f → gives sl' f' → (∀ i x, i ≠ sl → i ≠ sl' → ¬ gives i x) →
      w.weight q = f * f' / 4096 ∧ (f ≤ 4096 → f' ≤ 4096 → w.weight q ≤ f ∧ w.weight q ≤ f' ∧ w.weight q ≤ 4096) ∧
      (f = 4096 → w.weight q = f') ∧ (f' = 4096 → w.weight q = f)) ∧
    ∀ sample ch, onChannel (w.finish q sample) ch = w.send (liftStep (w.lift (w.count q) ch) (w.weight q)
      (attenuate (decodeStep w.decode (sample ch)) (w.weight q)))

/-- The attenuation, and the light two heads of one seam share: their factors sum to 4,096, and at one point
of one frame their attenuated values to the linear value or one more, the one more exactly where both
products leave 2,048. The point lies inside the band, on a lawful curve and fade; else the factor's range is a
premise. -/
def Obligations.AttenuatedLightShared : Prop :=
  let ranged := fun (g : SeamGeometry) (k : SeamLook) (c : Curves) (x : Int) =>
    (curveOk (c.curve g.curve) = true ∧ g.a + 16 ≤ g.b ∧ 16 * (g.a : Int) ≤ x ∧ x ≤ 16 * g.b ∧
      ∀ f, k.fade = some f → f.k < f.n) ∨ k.risingFactor (g.ramp c x) ≤ 4096
  (∀ lin w, w ≤ 4096 → attenuate lin w = (lin * w + 2048) / 4096 ∧ attenuate lin w ≤ lin ∧
    attenuate lin 4096 = lin ∧ attenuate lin 0 = 0 ∧
    lin * w < 4096 * attenuate lin w + 2048 ∧ 4096 * attenuate lin w ≤ lin * w + 2048) ∧
  (∀ (w : FrameView) (q : Position) sample ch, onChannel (w.finish q sample) ch =
    w.send (liftStep (w.lift (w.count q) ch) (w.weight q)
      (attenuate (decodeStep w.decode (sample ch)) (w.weight q)))) ∧
  (∀ (g : SeamGeometry) (k : SeamLook) (c : Curves) (x : Int), g.falling ≠ g.rising →
    ranged g k c x → g.factor k c g.falling x + g.factor k c g.rising x = 4096) ∧
  (∀ (v w : FrameView) (q : Position) (sl : Slot) (g : SeamGeometry) (k : SeamLook) (ch : Channel),
    v.head = g.falling → w.head = g.rising → g.falling ≠ g.rising →
    v.geometry = w.geometry → v.looks = w.looks → v.curves = w.curves → v.decode = w.decode →
    v.input = w.input → v.source = w.source →
    w.geometry.get sl = some g → w.looks.get sl = some k →
    16 * (g.a : Int) ≤ q.along g.orientation → q.along g.orientation ≤ 16 * g.b →
    ranged g k w.curves (q.along g.orientation) →
    (∀ i, i ≠ sl → v.share q i = none ∧ w.share q i = none) →
    let lin := decodeStep w.decode (w.sample q ch)
    decodeStep v.decode (v.sample q ch) = lin ∧
      (attenuate lin (v.weight q) + attenuate lin (w.weight q) = lin ∨
        attenuate lin (v.weight q) + attenuate lin (w.weight q) = lin + 1)) ∧
  ∀ lin f, f ≤ 4096 →
    (attenuate lin f + attenuate lin (4096 - f) = lin + 1 ↔
      lin * f % 4096 = 2048 ∧ lin * (4096 - f) % 4096 = 2048)

/-- The depth step: the code at depth 12, a quarter or a sixteenth of it rounded half up and held at the top
at depths 10 and 8; the value sent fits the depth. -/
def Obligations.DepthStep : Prop :=
  (∀ code, depthStep .d12 code = code ∧ depthStep .d10 code = min 1023 ((code + 2) / 4) ∧
    depthStep .d8 code = min 255 ((code + 8) / 16)) ∧
  (∀ code, code ≤ 4095 → depthStep .d12 code ≤ 4095 ∧ depthStep .d10 code ≤ 1023 ∧ depthStep .d8 code ≤ 255) ∧
  (∀ code, code ≤ 4093 → code < 4 * depthStep .d10 code + 2 ∧ 4 * depthStep .d10 code ≤ code + 2) ∧
  (∀ code, code ≤ 4087 → code < 16 * depthStep .d8 code + 8 ∧ 16 * depthStep .d8 code ≤ code + 8) ∧
  (depthStep .d12 4094 = 4094 ∧ depthStep .d10 4094 = 1023 ∧ depthStep .d8 4094 = 255 ∧
    encodeStep defaultEncode (decodeStep defaultDecode 4095) = 4094) ∧
  ∀ (w : FrameView) (lo : Nat), w.send lo = depthStep w.depth (encodeStep w.encode lo)

/-- At a point inside all four bands of a two-by-two arrangement of heads 0 to 3, with seams in slots 0 to 3, whose
two vertical seams match and whose two horizontal seams match, the four heads' weights sum to at least 4,093 and at
most 4,096. -/
def Obligations.CornerWeights : Prop :=
  ∀ (a b a' b' c c' : Nat) (kv kh : SeamLook) (curves : Curves) (q : Position) (view : Head → FrameView),
    let v := fun x y : Head => SeamGeometry.mk .vertical x y a b c
    let h := fun x y : Head => SeamGeometry.mk .horizontal x y a' b' c'
    (∀ i, (view i).head = i ∧ (view i).curves = curves ∧
      (view i).geometry = ⟨some (v .i0 .i1), some (v .i2 .i3), some (h .i0 .i2), some (h .i1 .i3)⟩ ∧
      (view i).looks = ⟨some kv, some kv, some kh, some kh⟩) →
    (curveOk (curves.curve c) = true ∧ curveOk (curves.curve c') = true) →
    (a + 16 ≤ b ∧ b ≤ a + 1024 ∧ a' + 16 ≤ b' ∧ b' ≤ a' + 1024) →
    ((∀ f, kv.fade = some f → f.k < f.n) ∧ ∀ f, kh.fade = some f → f.k < f.n) →
    (16 * (a : Int) ≤ q.u ∧ q.u ≤ 16 * b ∧ 16 * (a' : Int) ≤ q.v ∧ q.v ≤ 16 * b') →
    4093 ≤ (view .i0).weight q + (view .i1).weight q + (view .i2).weight q + (view .i3).weight q ∧
      (view .i0).weight q + (view .i1).weight q + (view .i2).weight q + (view .i3).weight q ≤ 4096
end

