-- ==== Sys2Proof/Laws/Bytes.lean ====
section
/-! SUPPORT. Reading back what the wire forms write: bytes, two, three and four byte numbers at a place of a body. -/

namespace Sys2Proof

/-! ## One place -/

@[simp] theorem length_be1 (n : Nat) : (be1 n).length = 1 := rfl

@[simp] theorem length_be2 (n : Nat) : (be2 n).length = 2 := rfl

@[simp] theorem length_be3 (n : Nat) : (be3 n).length = 3 := rfl

@[simp] theorem length_be3s (i : Int) : (be3s i).length = 3 := rfl

@[simp] theorem length_be4 (n : Nat) : (be4 n).length = 4 := rfl

@[simp] theorem length_beBool (b : Bool) : (beBool b).length = 1 := rfl

@[simp] theorem u8_cons_zero (b : Byte) (l : List Byte) : u8 (b :: l) 0 = b.toNat := rfl

@[simp] theorem u8_cons_succ (b : Byte) (l : List Byte) (i : Nat) : u8 (b :: l) (i + 1) = u8 l i := rfl

/-- A byte of the second of two runs. -/
theorem u8_append_right (l r : List Byte) (i : Nat) (h : l.length ≤ i) : u8 (l ++ r) i = u8 r (i - l.length) := by
  simp [u8, List.getD, List.getElem?_append_right h]

/-- A byte of the first of two runs. -/
theorem u8_append_left (l r : List Byte) (i : Nat) (h : i < l.length) : u8 (l ++ r) i = u8 l i := by
  simp [u8, List.getD, List.getElem?_append_left h]

/-- A byte is below 256. -/
theorem u8_lt (l : List Byte) (i : Nat) : u8 l i < 256 := (l.getD i 0).isLt

/-- A two-byte number is below 65,536. -/
theorem u16_lt (l : List Byte) (i : Nat) : u16 l i < 65536 := by
  have := u8_lt l i
  have := u8_lt l (i + 1)
  unfold u16
  omega

/-! ## A number written at the head of a run -/

@[simp] theorem u8_be1 (n : Nat) (r : List Byte) : u8 (be1 n ++ r) 0 = n % 256 := by
  simp [be1]

@[simp] theorem u16_be2 (n : Nat) (r : List Byte) : u16 (be2 n ++ r) 0 = n % 65536 := by
  simp only [u16, be2, List.cons_append, u8_cons_zero, u8_cons_succ, BitVec.toNat_ofNat]
  omega

@[simp] theorem u24_be3 (n : Nat) (r : List Byte) : u24 (be3 n ++ r) 0 = n % 16777216 := by
  simp only [u24, u16, be3, List.cons_append, u8_cons_zero, u8_cons_succ, BitVec.toNat_ofNat]
  omega

@[simp] theorem u32_be4 (n : Nat) (r : List Byte) : u32 (be4 n ++ r) 0 = n % 4294967296 := by
  simp only [u32, u16, be4, List.cons_append, u8_cons_zero, u8_cons_succ, BitVec.toNat_ofNat]
  omega

/-- A signed number in its three-byte range reads back. -/
theorem s24_be3s (i : Int) (r : List Byte) (h : -8388608 ≤ i ∧ i < 8388608) : s24 (be3s i ++ r) 0 = i := by
  have e : u24 (be3s i ++ r) 0 = (i % 16777216).toNat := by
    rw [be3s, u24_be3]
    omega
  simp only [s24, e]
  split <;> omega

/-! ## Behind a run -/

/-- A two-byte number behind a run. -/
theorem u16_append_right (l r : List Byte) (i : Nat) (h : l.length ≤ i) :
    u16 (l ++ r) i = u16 r (i - l.length) := by
  simp only [u16, u8_append_right l r i h, u8_append_right l r (i + 1) (by omega)]
  congr 3
  omega

/-- A three-byte number behind a run. -/
theorem u24_append_right (l r : List Byte) (i : Nat) (h : l.length ≤ i) :
    u24 (l ++ r) i = u24 r (i - l.length) := by
  simp only [u24, u8_append_right l r i h, u16_append_right l r (i + 1) (by omega)]
  congr 3
  omega

/-- A signed number behind a run. -/
theorem s24_append_right (l r : List Byte) (i : Nat) (h : l.length ≤ i) :
    s24 (l ++ r) i = s24 r (i - l.length) := by
  simp only [s24, u24_append_right l r i h]

/-! ## Runs -/

/-- Two-byte entries written one after another read back. -/
theorem entries_read (l : List Nat) (hl : ∀ x ∈ l, x < 65536) (r : List Byte) :
    (List.range l.length).map (fun k => u16 (l.flatMap be2 ++ r) (2 * k)) = l := by
  induction l with
  | nil => rfl
  | cons x l ih =>
    have hx : x % 65536 = x := Nat.mod_eq_of_lt (hl x (List.mem_cons_self ..))
    rw [List.length_cons, List.range_succ_eq_map, List.map_cons, List.map_map]
    refine congrArg₂ _ ?_ ?_
    · simp [hx]
    · refine Eq.trans (List.map_congr_left fun k _ => ?_) (ih fun y hy => hl y (List.mem_cons_of_mem _ hy))
      simp only [Function.comp, List.flatMap_cons, List.append_assoc]
      rw [u16_append_right _ _ _ (by simp)]
      congr 1

end Sys2Proof
end

