-- ==== Sys2Proof/Laws/Containers.lean ====
section
/-! SUPPORT. The laws of Quad and PerPort: reading after writing, through a function, and equality part by part. -/

namespace Sys2Proof

@[simp] theorem Quad.get_set_same {α : Type} (q : Quad α) (i : Idx4) (x : α) : (q.set i x).get i = x := by
  cases i <;> rfl

@[simp] theorem Quad.get_set_ne {α : Type} (q : Quad α) {i k : Idx4} (x : α) (h : k ≠ i) :
    (q.set i x).get k = q.get k := by
  cases i <;> cases k <;> first | rfl | exact absurd rfl h

theorem Quad.get_set {α : Type} (q : Quad α) (i k : Idx4) (x : α) :
    (q.set i x).get k = if k = i then x else q.get k := by
  split <;> simp_all

@[simp] theorem Quad.get_map {α β : Type} (f : α → β) (q : Quad α) (i : Idx4) : (q.map f).get i = f (q.get i) := by
  cases i <;> rfl

@[simp] theorem Quad.get_ofFn {α : Type} (f : Idx4 → α) (i : Idx4) : (Quad.ofFn f).get i = f i := by
  cases i <;> rfl

@[simp] theorem Quad.get_const {α : Type} (x : α) (i : Idx4) : (Quad.const x).get i = x := by
  cases i <;> rfl

@[simp] theorem Quad.set_get {α : Type} (q : Quad α) (i : Idx4) : q.set i (q.get i) = q := by
  cases i <;> rfl

@[simp] theorem Quad.set_set {α : Type} (q : Quad α) (i : Idx4) (x y : α) : (q.set i x).set i y = q.set i y := by
  cases i <;> rfl

/-- Two quads whose parts agree are equal. -/
theorem Quad.ext_get {α : Type} {q r : Quad α} (h : ∀ i, q.get i = r.get i) : q = r := by
  cases q; cases r
  exact congr (congr (congr (congrArg Quad.mk (h .i0)) (h .i1)) (h .i2)) (h .i3)

@[simp] theorem Quad.ofFn_get {α : Type} (q : Quad α) : (Quad.ofFn fun i => q.get i) = q :=
  Quad.ext_get fun i => by simp

@[simp] theorem Quad.mem_toList {α : Type} (q : Quad α) (x : α) : x ∈ q.toList ↔ ∃ i, q.get i = x := by
  constructor
  · intro h
    simp only [Quad.toList, List.mem_cons, List.not_mem_nil, or_false] at h
    rcases h with h | h | h | h
    exacts [⟨.i0, h.symm⟩, ⟨.i1, h.symm⟩, ⟨.i2, h.symm⟩, ⟨.i3, h.symm⟩]
  · rintro ⟨i, rfl⟩
    cases i <;> simp [Quad.toList, Quad.get]

@[simp] theorem Idx4.mem_all (i : Idx4) : i ∈ Idx4.all := by cases i <;> decide

@[simp] theorem Idx4.ofNat?_toNat (i : Idx4) : Idx4.ofNat? i.toNat = some i := by cases i <;> rfl

theorem Idx4.toNat_lt (i : Idx4) : i.toNat < 4 := by cases i <;> decide

theorem Idx4.toNat_inj {i k : Idx4} (h : i.toNat = k.toNat) : i = k := by
  cases i <;> cases k <;> first | rfl | exact absurd h (by decide)

/-- The index a number names is the one it is the number of. -/
theorem Idx4.ofNat?_eq_some {n : Nat} {i : Idx4} : Idx4.ofNat? n = some i ↔ n = i.toNat := by
  constructor
  · intro h
    unfold Idx4.ofNat? at h
    split at h <;> simp at h <;> subst h <;> rfl
  · rintro rfl
    simp

/-- A number above 3 names no index. -/
theorem Idx4.ofNat?_eq_none {n : Nat} : Idx4.ofNat? n = none ↔ 3 < n := by
  match n with
  | 0 | 1 | 2 | 3 => simp [Idx4.ofNat?]
  | n + 4 => simp [Idx4.ofNat?]

@[simp] theorem PerPort.get_set_same {α : Type} (q : PerPort α) (p : Port) (x : α) : (q.set p x).get p = x := by
  cases p <;> simp [PerPort.get, PerPort.set]

@[simp] theorem PerPort.get_set_ne {α : Type} (q : PerPort α) {p r : Port} (x : α) (h : r ≠ p) :
    (q.set p x).get r = q.get r := by
  cases p with
  | ap => cases r with
    | ap => exact absurd rfl h
    | head k => rfl
  | head i => cases r with
    | ap => rfl
    | head k => exact Quad.get_set_ne _ _ fun e => h (congrArg Port.head e)

theorem PerPort.get_set {α : Type} (q : PerPort α) (p r : Port) (x : α) :
    (q.set p x).get r = if r = p then x else q.get r := by
  split <;> simp_all

@[simp] theorem PerPort.get_map {α β : Type} (f : α → β) (q : PerPort α) (p : Port) :
    (q.map f).get p = f (q.get p) := by
  cases p <;> simp [PerPort.get, PerPort.map]

@[simp] theorem PerPort.get_const {α : Type} (x : α) (p : Port) : (PerPort.const x).get p = x := by
  cases p <;> simp [PerPort.get, PerPort.const]

@[simp] theorem PerPort.set_get {α : Type} (q : PerPort α) (p : Port) : q.set p (q.get p) = q := by
  cases p <;> simp [PerPort.get, PerPort.set]

@[simp] theorem PerPort.set_set {α : Type} (q : PerPort α) (p : Port) (x y : α) :
    (q.set p x).set p y = q.set p y := by
  cases p <;> simp [PerPort.set]

/-- Two collections whose parts agree are equal. -/
theorem PerPort.ext_get {α : Type} {q r : PerPort α} (h : ∀ p, q.get p = r.get p) : q = r := by
  cases q; cases r
  exact congr (congrArg PerPort.mk (Quad.ext_get fun i => h (.head i))) (h .ap)

end Sys2Proof
end

