-- ==== Sys2Proof/Laws/State.lean ====
section
/-! SUPPORT. One lemma per field for the plain updates of State, each true by unfolding. -/

namespace Sys2Proof.Machine

/-! ## Time passing (`State.elapse`) -/

@[simp] theorem State.elapse_setup (n : Nat) (s : State) :
    (s.elapse n).setup = s.setup := rfl

@[simp] theorem State.elapse_timing (n : Nat) (s : State) :
    (s.elapse n).timing = s.timing.elapse n := rfl

@[simp] theorem State.elapse_measured (n : Nat) (s : State) :
    (s.elapse n).measured = s.measured := rfl

@[simp] theorem State.elapse_heads (n : Nat) (s : State) :
    (s.elapse n).heads = s.heads := rfl

@[simp] theorem State.elapse_monitor (n : Nat) (s : State) :
    (s.elapse n).monitor = s.monitor.map (·.elapse n) := rfl

@[simp] theorem State.elapse_mesh (n : Nat) (s : State) :
    (s.elapse n).mesh = s.mesh.map (·.elapse n) := rfl

@[simp] theorem State.elapse_seams (n : Nat) (s : State) :
    (s.elapse n).seams = s.seams := rfl

@[simp] theorem State.elapse_published (n : Nat) (s : State) :
    (s.elapse n).published = s.published := rfl

@[simp] theorem State.elapse_curves (n : Nat) (s : State) :
    (s.elapse n).curves = s.curves := rfl

@[simp] theorem State.elapse_live (n : Nat) (s : State) :
    (s.elapse n).live = s.live := rfl

@[simp] theorem State.elapse_staged (n : Nat) (s : State) :
    (s.elapse n).staged = s.staged := rfl

@[simp] theorem State.elapse_views (n : Nat) (s : State) :
    (s.elapse n).views = s.views := rfl

@[simp] theorem State.elapse_source (n : Nat) (s : State) :
    (s.elapse n).source = { s.source with lossTimer := s.source.lossTimer.map (· + n) } := rfl

@[simp] theorem State.elapse_buffers (n : Nat) (s : State) :
    (s.elapse n).buffers = s.buffers := rfl

@[simp] theorem State.elapse_dropped (n : Nat) (s : State) :
    (s.elapse n).dropped = s.dropped := rfl

@[simp] theorem State.elapse_repeated (n : Nat) (s : State) :
    (s.elapse n).repeated = s.repeated := rfl

@[simp] theorem State.elapse_broken (n : Nat) (s : State) :
    (s.elapse n).broken = s.broken := rfl

@[simp] theorem State.elapse_baud (n : Nat) (s : State) :
    (s.elapse n).baud = s.baud := rfl

@[simp] theorem State.elapse_ports (n : Nat) (s : State) :
    (s.elapse n).ports = s.ports.map (·.elapse n) := rfl

@[simp] theorem State.elapse_queue (n : Nat) (s : State) :
    (s.elapse n).queue = s.queue := rfl

@[simp] theorem State.elapse_inHand (n : Nat) (s : State) :
    (s.elapse n).inHand = s.inHand := rfl

@[simp] theorem State.elapse_startCode (n : Nat) (s : State) :
    (s.elapse n).startCode = s.startCode := rfl

@[simp] theorem State.elapse_startPhase (n : Nat) (s : State) :
    (s.elapse n).startPhase = s.startPhase := rfl

@[simp] theorem State.elapse_stored (n : Nat) (s : State) :
    (s.elapse n).stored = s.stored := rfl

@[simp] theorem State.elapse_save (n : Nat) (s : State) :
    (s.elapse n).save = s.save := rfl

@[simp] theorem State.elapse_image (n : Nat) (s : State) :
    (s.elapse n).image = s.image := rfl

@[simp] theorem State.elapse_abortedOp (n : Nat) (s : State) :
    (s.elapse n).abortedOp = s.abortedOp := rfl

@[simp] theorem State.elapse_flashTimer (n : Nat) (s : State) :
    (s.elapse n).flashTimer = s.flashTimer.map (· + n) := rfl

@[simp] theorem State.elapse_flash (n : Nat) (s : State) :
    (s.elapse n).flash = s.flash := rfl

@[simp] theorem State.elapse_pending (n : Nat) (s : State) :
    (s.elapse n).pending = s.pending := rfl

/-! ## A notice raised (`State.raise`) -/

@[simp] theorem State.raise_setup (n : Notice) (s : State) :
    (s.raise n).setup = s.setup := rfl

@[simp] theorem State.raise_timing (n : Notice) (s : State) :
    (s.raise n).timing = s.timing := rfl

@[simp] theorem State.raise_measured (n : Notice) (s : State) :
    (s.raise n).measured = s.measured := rfl

@[simp] theorem State.raise_heads (n : Notice) (s : State) :
    (s.raise n).heads = s.heads := rfl

@[simp] theorem State.raise_monitor (n : Notice) (s : State) :
    (s.raise n).monitor = s.monitor := rfl

@[simp] theorem State.raise_mesh (n : Notice) (s : State) :
    (s.raise n).mesh = s.mesh := rfl

@[simp] theorem State.raise_seams (n : Notice) (s : State) :
    (s.raise n).seams = s.seams := rfl

@[simp] theorem State.raise_published (n : Notice) (s : State) :
    (s.raise n).published = s.published := rfl

@[simp] theorem State.raise_curves (n : Notice) (s : State) :
    (s.raise n).curves = s.curves := rfl

@[simp] theorem State.raise_live (n : Notice) (s : State) :
    (s.raise n).live = s.live := rfl

@[simp] theorem State.raise_staged (n : Notice) (s : State) :
    (s.raise n).staged = s.staged := rfl

@[simp] theorem State.raise_views (n : Notice) (s : State) :
    (s.raise n).views = s.views := rfl

@[simp] theorem State.raise_source (n : Notice) (s : State) :
    (s.raise n).source = s.source := rfl

@[simp] theorem State.raise_buffers (n : Notice) (s : State) :
    (s.raise n).buffers = s.buffers := rfl

@[simp] theorem State.raise_dropped (n : Notice) (s : State) :
    (s.raise n).dropped = s.dropped := rfl

@[simp] theorem State.raise_repeated (n : Notice) (s : State) :
    (s.raise n).repeated = s.repeated := rfl

@[simp] theorem State.raise_broken (n : Notice) (s : State) :
    (s.raise n).broken = s.broken := rfl

@[simp] theorem State.raise_baud (n : Notice) (s : State) :
    (s.raise n).baud = s.baud := rfl

@[simp] theorem State.raise_ports (n : Notice) (s : State) :
    (s.raise n).ports = s.ports.map (·.raise n) := rfl

@[simp] theorem State.raise_queue (n : Notice) (s : State) :
    (s.raise n).queue = s.queue := rfl

@[simp] theorem State.raise_inHand (n : Notice) (s : State) :
    (s.raise n).inHand = s.inHand := rfl

@[simp] theorem State.raise_startCode (n : Notice) (s : State) :
    (s.raise n).startCode = s.startCode := rfl

@[simp] theorem State.raise_startPhase (n : Notice) (s : State) :
    (s.raise n).startPhase = s.startPhase := rfl

@[simp] theorem State.raise_stored (n : Notice) (s : State) :
    (s.raise n).stored = s.stored := rfl

@[simp] theorem State.raise_save (n : Notice) (s : State) :
    (s.raise n).save = s.save := rfl

@[simp] theorem State.raise_image (n : Notice) (s : State) :
    (s.raise n).image = s.image := rfl

@[simp] theorem State.raise_abortedOp (n : Notice) (s : State) :
    (s.raise n).abortedOp = s.abortedOp := rfl

@[simp] theorem State.raise_flashTimer (n : Notice) (s : State) :
    (s.raise n).flashTimer = s.flashTimer := rfl

@[simp] theorem State.raise_flash (n : Notice) (s : State) :
    (s.raise n).flash = s.flash := rfl

@[simp] theorem State.raise_pending (n : Notice) (s : State) :
    (s.raise n).pending = s.pending := rfl

/-! ## A reply entered (`State.enter`) -/

@[simp] theorem State.enter_setup (p : Port) (r : Reply) (s : State) :
    (s.enter p r).setup = s.setup := rfl

@[simp] theorem State.enter_timing (p : Port) (r : Reply) (s : State) :
    (s.enter p r).timing = s.timing := rfl

@[simp] theorem State.enter_measured (p : Port) (r : Reply) (s : State) :
    (s.enter p r).measured = s.measured := rfl

@[simp] theorem State.enter_heads (p : Port) (r : Reply) (s : State) :
    (s.enter p r).heads = s.heads := rfl

@[simp] theorem State.enter_monitor (p : Port) (r : Reply) (s : State) :
    (s.enter p r).monitor = s.monitor := rfl

@[simp] theorem State.enter_mesh (p : Port) (r : Reply) (s : State) :
    (s.enter p r).mesh = s.mesh := rfl

@[simp] theorem State.enter_seams (p : Port) (r : Reply) (s : State) :
    (s.enter p r).seams = s.seams := rfl

@[simp] theorem State.enter_published (p : Port) (r : Reply) (s : State) :
    (s.enter p r).published = s.published := rfl

@[simp] theorem State.enter_curves (p : Port) (r : Reply) (s : State) :
    (s.enter p r).curves = s.curves := rfl

@[simp] theorem State.enter_live (p : Port) (r : Reply) (s : State) :
    (s.enter p r).live = s.live := rfl

@[simp] theorem State.enter_staged (p : Port) (r : Reply) (s : State) :
    (s.enter p r).staged = s.staged := rfl

@[simp] theorem State.enter_views (p : Port) (r : Reply) (s : State) :
    (s.enter p r).views = s.views := rfl

@[simp] theorem State.enter_source (p : Port) (r : Reply) (s : State) :
    (s.enter p r).source = s.source := rfl

@[simp] theorem State.enter_buffers (p : Port) (r : Reply) (s : State) :
    (s.enter p r).buffers = s.buffers := rfl

@[simp] theorem State.enter_dropped (p : Port) (r : Reply) (s : State) :
    (s.enter p r).dropped = s.dropped := rfl

@[simp] theorem State.enter_repeated (p : Port) (r : Reply) (s : State) :
    (s.enter p r).repeated = s.repeated := rfl

@[simp] theorem State.enter_broken (p : Port) (r : Reply) (s : State) :
    (s.enter p r).broken = s.broken := rfl

@[simp] theorem State.enter_baud (p : Port) (r : Reply) (s : State) :
    (s.enter p r).baud = s.baud := rfl

@[simp] theorem State.enter_ports (p : Port) (r : Reply) (s : State) :
    (s.enter p r).ports = s.ports.set p { s.ports.get p with replies := (s.ports.get p).replies ++ [r] } := rfl

@[simp] theorem State.enter_queue (p : Port) (r : Reply) (s : State) :
    (s.enter p r).queue = s.queue := rfl

@[simp] theorem State.enter_inHand (p : Port) (r : Reply) (s : State) :
    (s.enter p r).inHand = s.inHand := rfl

@[simp] theorem State.enter_startCode (p : Port) (r : Reply) (s : State) :
    (s.enter p r).startCode = s.startCode := rfl

@[simp] theorem State.enter_startPhase (p : Port) (r : Reply) (s : State) :
    (s.enter p r).startPhase = s.startPhase := rfl

@[simp] theorem State.enter_stored (p : Port) (r : Reply) (s : State) :
    (s.enter p r).stored = s.stored := rfl

@[simp] theorem State.enter_save (p : Port) (r : Reply) (s : State) :
    (s.enter p r).save = s.save := rfl

@[simp] theorem State.enter_image (p : Port) (r : Reply) (s : State) :
    (s.enter p r).image = s.image := rfl

@[simp] theorem State.enter_abortedOp (p : Port) (r : Reply) (s : State) :
    (s.enter p r).abortedOp = s.abortedOp := rfl

@[simp] theorem State.enter_flashTimer (p : Port) (r : Reply) (s : State) :
    (s.enter p r).flashTimer = s.flashTimer := rfl

@[simp] theorem State.enter_flash (p : Port) (r : Reply) (s : State) :
    (s.enter p r).flash = s.flash := rfl

@[simp] theorem State.enter_pending (p : Port) (r : Reply) (s : State) :
    (s.enter p r).pending = s.pending := rfl

/-! ## An assembler written (`State.setAssembler`) -/

@[simp] theorem State.setAssembler_setup (p : Port) (a : Assembler) (s : State) :
    (s.setAssembler p a).setup = s.setup := rfl

@[simp] theorem State.setAssembler_timing (p : Port) (a : Assembler) (s : State) :
    (s.setAssembler p a).timing = s.timing := rfl

@[simp] theorem State.setAssembler_measured (p : Port) (a : Assembler) (s : State) :
    (s.setAssembler p a).measured = s.measured := rfl

@[simp] theorem State.setAssembler_heads (p : Port) (a : Assembler) (s : State) :
    (s.setAssembler p a).heads = s.heads := rfl

@[simp] theorem State.setAssembler_monitor (p : Port) (a : Assembler) (s : State) :
    (s.setAssembler p a).monitor = s.monitor := rfl

@[simp] theorem State.setAssembler_mesh (p : Port) (a : Assembler) (s : State) :
    (s.setAssembler p a).mesh = s.mesh := rfl

@[simp] theorem State.setAssembler_seams (p : Port) (a : Assembler) (s : State) :
    (s.setAssembler p a).seams = s.seams := rfl

@[simp] theorem State.setAssembler_published (p : Port) (a : Assembler) (s : State) :
    (s.setAssembler p a).published = s.published := rfl

@[simp] theorem State.setAssembler_curves (p : Port) (a : Assembler) (s : State) :
    (s.setAssembler p a).curves = s.curves := rfl

@[simp] theorem State.setAssembler_live (p : Port) (a : Assembler) (s : State) :
    (s.setAssembler p a).live = s.live := rfl

@[simp] theorem State.setAssembler_staged (p : Port) (a : Assembler) (s : State) :
    (s.setAssembler p a).staged = s.staged := rfl

@[simp] theorem State.setAssembler_views (p : Port) (a : Assembler) (s : State) :
    (s.setAssembler p a).views = s.views := rfl

@[simp] theorem State.setAssembler_source (p : Port) (a : Assembler) (s : State) :
    (s.setAssembler p a).source = s.source := rfl

@[simp] theorem State.setAssembler_buffers (p : Port) (a : Assembler) (s : State) :
    (s.setAssembler p a).buffers = s.buffers := rfl

@[simp] theorem State.setAssembler_dropped (p : Port) (a : Assembler) (s : State) :
    (s.setAssembler p a).dropped = s.dropped := rfl

@[simp] theorem State.setAssembler_repeated (p : Port) (a : Assembler) (s : State) :
    (s.setAssembler p a).repeated = s.repeated := rfl

@[simp] theorem State.setAssembler_broken (p : Port) (a : Assembler) (s : State) :
    (s.setAssembler p a).broken = s.broken := rfl

@[simp] theorem State.setAssembler_baud (p : Port) (a : Assembler) (s : State) :
    (s.setAssembler p a).baud = s.baud := rfl

@[simp] theorem State.setAssembler_ports (p : Port) (a : Assembler) (s : State) :
    (s.setAssembler p a).ports = s.ports.set p { s.ports.get p with assembler := a } := rfl

@[simp] theorem State.setAssembler_queue (p : Port) (a : Assembler) (s : State) :
    (s.setAssembler p a).queue = s.queue := rfl

@[simp] theorem State.setAssembler_inHand (p : Port) (a : Assembler) (s : State) :
    (s.setAssembler p a).inHand = s.inHand := rfl

@[simp] theorem State.setAssembler_startCode (p : Port) (a : Assembler) (s : State) :
    (s.setAssembler p a).startCode = s.startCode := rfl

@[simp] theorem State.setAssembler_startPhase (p : Port) (a : Assembler) (s : State) :
    (s.setAssembler p a).startPhase = s.startPhase := rfl

@[simp] theorem State.setAssembler_stored (p : Port) (a : Assembler) (s : State) :
    (s.setAssembler p a).stored = s.stored := rfl

@[simp] theorem State.setAssembler_save (p : Port) (a : Assembler) (s : State) :
    (s.setAssembler p a).save = s.save := rfl

@[simp] theorem State.setAssembler_image (p : Port) (a : Assembler) (s : State) :
    (s.setAssembler p a).image = s.image := rfl

@[simp] theorem State.setAssembler_abortedOp (p : Port) (a : Assembler) (s : State) :
    (s.setAssembler p a).abortedOp = s.abortedOp := rfl

@[simp] theorem State.setAssembler_flashTimer (p : Port) (a : Assembler) (s : State) :
    (s.setAssembler p a).flashTimer = s.flashTimer := rfl

@[simp] theorem State.setAssembler_flash (p : Port) (a : Assembler) (s : State) :
    (s.setAssembler p a).flash = s.flash := rfl

@[simp] theorem State.setAssembler_pending (p : Port) (a : Assembler) (s : State) :
    (s.setAssembler p a).pending = s.pending := rfl

/-! ## A head record written (`State.setHead`) -/

@[simp] theorem State.setHead_setup (h : Head) (r : HeadRecord) (s : State) :
    (s.setHead h r).setup = s.setup := rfl

@[simp] theorem State.setHead_timing (h : Head) (r : HeadRecord) (s : State) :
    (s.setHead h r).timing = s.timing := rfl

@[simp] theorem State.setHead_measured (h : Head) (r : HeadRecord) (s : State) :
    (s.setHead h r).measured = s.measured := rfl

@[simp] theorem State.setHead_heads (h : Head) (r : HeadRecord) (s : State) :
    (s.setHead h r).heads = s.heads.set h r := rfl

@[simp] theorem State.setHead_monitor (h : Head) (r : HeadRecord) (s : State) :
    (s.setHead h r).monitor = s.monitor := rfl

@[simp] theorem State.setHead_mesh (h : Head) (r : HeadRecord) (s : State) :
    (s.setHead h r).mesh = s.mesh := rfl

@[simp] theorem State.setHead_seams (h : Head) (r : HeadRecord) (s : State) :
    (s.setHead h r).seams = s.seams := rfl

@[simp] theorem State.setHead_published (h : Head) (r : HeadRecord) (s : State) :
    (s.setHead h r).published = s.published := rfl

@[simp] theorem State.setHead_curves (h : Head) (r : HeadRecord) (s : State) :
    (s.setHead h r).curves = s.curves := rfl

@[simp] theorem State.setHead_live (h : Head) (r : HeadRecord) (s : State) :
    (s.setHead h r).live = s.live := rfl

@[simp] theorem State.setHead_staged (h : Head) (r : HeadRecord) (s : State) :
    (s.setHead h r).staged = s.staged := rfl

@[simp] theorem State.setHead_views (h : Head) (r : HeadRecord) (s : State) :
    (s.setHead h r).views = s.views := rfl

@[simp] theorem State.setHead_source (h : Head) (r : HeadRecord) (s : State) :
    (s.setHead h r).source = s.source := rfl

@[simp] theorem State.setHead_buffers (h : Head) (r : HeadRecord) (s : State) :
    (s.setHead h r).buffers = s.buffers := rfl

@[simp] theorem State.setHead_dropped (h : Head) (r : HeadRecord) (s : State) :
    (s.setHead h r).dropped = s.dropped := rfl

@[simp] theorem State.setHead_repeated (h : Head) (r : HeadRecord) (s : State) :
    (s.setHead h r).repeated = s.repeated := rfl

@[simp] theorem State.setHead_broken (h : Head) (r : HeadRecord) (s : State) :
    (s.setHead h r).broken = s.broken := rfl

@[simp] theorem State.setHead_baud (h : Head) (r : HeadRecord) (s : State) :
    (s.setHead h r).baud = s.baud := rfl

@[simp] theorem State.setHead_ports (h : Head) (r : HeadRecord) (s : State) :
    (s.setHead h r).ports = s.ports := rfl

@[simp] theorem State.setHead_queue (h : Head) (r : HeadRecord) (s : State) :
    (s.setHead h r).queue = s.queue := rfl

@[simp] theorem State.setHead_inHand (h : Head) (r : HeadRecord) (s : State) :
    (s.setHead h r).inHand = s.inHand := rfl

@[simp] theorem State.setHead_startCode (h : Head) (r : HeadRecord) (s : State) :
    (s.setHead h r).startCode = s.startCode := rfl

@[simp] theorem State.setHead_startPhase (h : Head) (r : HeadRecord) (s : State) :
    (s.setHead h r).startPhase = s.startPhase := rfl

@[simp] theorem State.setHead_stored (h : Head) (r : HeadRecord) (s : State) :
    (s.setHead h r).stored = s.stored := rfl

@[simp] theorem State.setHead_save (h : Head) (r : HeadRecord) (s : State) :
    (s.setHead h r).save = s.save := rfl

@[simp] theorem State.setHead_image (h : Head) (r : HeadRecord) (s : State) :
    (s.setHead h r).image = s.image := rfl

@[simp] theorem State.setHead_abortedOp (h : Head) (r : HeadRecord) (s : State) :
    (s.setHead h r).abortedOp = s.abortedOp := rfl

@[simp] theorem State.setHead_flashTimer (h : Head) (r : HeadRecord) (s : State) :
    (s.setHead h r).flashTimer = s.flashTimer := rfl

@[simp] theorem State.setHead_flash (h : Head) (r : HeadRecord) (s : State) :
    (s.setHead h r).flash = s.flash := rfl

@[simp] theorem State.setHead_pending (h : Head) (r : HeadRecord) (s : State) :
    (s.setHead h r).pending = s.pending := rfl

/-! ## A mesh state written (`State.setMesh`) -/

@[simp] theorem State.setMesh_setup (h : Head) (m : HeadMesh) (s : State) :
    (s.setMesh h m).setup = s.setup := rfl

@[simp] theorem State.setMesh_timing (h : Head) (m : HeadMesh) (s : State) :
    (s.setMesh h m).timing = s.timing := rfl

@[simp] theorem State.setMesh_measured (h : Head) (m : HeadMesh) (s : State) :
    (s.setMesh h m).measured = s.measured := rfl

@[simp] theorem State.setMesh_heads (h : Head) (m : HeadMesh) (s : State) :
    (s.setMesh h m).heads = s.heads := rfl

@[simp] theorem State.setMesh_monitor (h : Head) (m : HeadMesh) (s : State) :
    (s.setMesh h m).monitor = s.monitor := rfl

@[simp] theorem State.setMesh_mesh (h : Head) (m : HeadMesh) (s : State) :
    (s.setMesh h m).mesh = s.mesh.set h m := rfl

@[simp] theorem State.setMesh_seams (h : Head) (m : HeadMesh) (s : State) :
    (s.setMesh h m).seams = s.seams := rfl

@[simp] theorem State.setMesh_published (h : Head) (m : HeadMesh) (s : State) :
    (s.setMesh h m).published = s.published := rfl

@[simp] theorem State.setMesh_curves (h : Head) (m : HeadMesh) (s : State) :
    (s.setMesh h m).curves = s.curves := rfl

@[simp] theorem State.setMesh_live (h : Head) (m : HeadMesh) (s : State) :
    (s.setMesh h m).live = s.live := rfl

@[simp] theorem State.setMesh_staged (h : Head) (m : HeadMesh) (s : State) :
    (s.setMesh h m).staged = s.staged := rfl

@[simp] theorem State.setMesh_views (h : Head) (m : HeadMesh) (s : State) :
    (s.setMesh h m).views = s.views := rfl

@[simp] theorem State.setMesh_source (h : Head) (m : HeadMesh) (s : State) :
    (s.setMesh h m).source = s.source := rfl

@[simp] theorem State.setMesh_buffers (h : Head) (m : HeadMesh) (s : State) :
    (s.setMesh h m).buffers = s.buffers := rfl

@[simp] theorem State.setMesh_dropped (h : Head) (m : HeadMesh) (s : State) :
    (s.setMesh h m).dropped = s.dropped := rfl

@[simp] theorem State.setMesh_repeated (h : Head) (m : HeadMesh) (s : State) :
    (s.setMesh h m).repeated = s.repeated := rfl

@[simp] theorem State.setMesh_broken (h : Head) (m : HeadMesh) (s : State) :
    (s.setMesh h m).broken = s.broken := rfl

@[simp] theorem State.setMesh_baud (h : Head) (m : HeadMesh) (s : State) :
    (s.setMesh h m).baud = s.baud := rfl

@[simp] theorem State.setMesh_ports (h : Head) (m : HeadMesh) (s : State) :
    (s.setMesh h m).ports = s.ports := rfl

@[simp] theorem State.setMesh_queue (h : Head) (m : HeadMesh) (s : State) :
    (s.setMesh h m).queue = s.queue := rfl

@[simp] theorem State.setMesh_inHand (h : Head) (m : HeadMesh) (s : State) :
    (s.setMesh h m).inHand = s.inHand := rfl

@[simp] theorem State.setMesh_startCode (h : Head) (m : HeadMesh) (s : State) :
    (s.setMesh h m).startCode = s.startCode := rfl

@[simp] theorem State.setMesh_startPhase (h : Head) (m : HeadMesh) (s : State) :
    (s.setMesh h m).startPhase = s.startPhase := rfl

@[simp] theorem State.setMesh_stored (h : Head) (m : HeadMesh) (s : State) :
    (s.setMesh h m).stored = s.stored := rfl

@[simp] theorem State.setMesh_save (h : Head) (m : HeadMesh) (s : State) :
    (s.setMesh h m).save = s.save := rfl

@[simp] theorem State.setMesh_image (h : Head) (m : HeadMesh) (s : State) :
    (s.setMesh h m).image = s.image := rfl

@[simp] theorem State.setMesh_abortedOp (h : Head) (m : HeadMesh) (s : State) :
    (s.setMesh h m).abortedOp = s.abortedOp := rfl

@[simp] theorem State.setMesh_flashTimer (h : Head) (m : HeadMesh) (s : State) :
    (s.setMesh h m).flashTimer = s.flashTimer := rfl

@[simp] theorem State.setMesh_flash (h : Head) (m : HeadMesh) (s : State) :
    (s.setMesh h m).flash = s.flash := rfl

@[simp] theorem State.setMesh_pending (h : Head) (m : HeadMesh) (s : State) :
    (s.setMesh h m).pending = s.pending := rfl

/-! ## A STAGED bank written (`State.setStaged`) -/

@[simp] theorem State.setStaged_setup (h : Head) (b : List Node) (s : State) :
    (s.setStaged h b).setup = s.setup := rfl

@[simp] theorem State.setStaged_timing (h : Head) (b : List Node) (s : State) :
    (s.setStaged h b).timing = s.timing := rfl

@[simp] theorem State.setStaged_measured (h : Head) (b : List Node) (s : State) :
    (s.setStaged h b).measured = s.measured := rfl

@[simp] theorem State.setStaged_heads (h : Head) (b : List Node) (s : State) :
    (s.setStaged h b).heads = s.heads := rfl

@[simp] theorem State.setStaged_monitor (h : Head) (b : List Node) (s : State) :
    (s.setStaged h b).monitor = s.monitor := rfl

@[simp] theorem State.setStaged_mesh (h : Head) (b : List Node) (s : State) :
    (s.setStaged h b).mesh = s.mesh.set h { s.mesh.get h with staged := b } := rfl

@[simp] theorem State.setStaged_seams (h : Head) (b : List Node) (s : State) :
    (s.setStaged h b).seams = s.seams := rfl

@[simp] theorem State.setStaged_published (h : Head) (b : List Node) (s : State) :
    (s.setStaged h b).published = s.published := rfl

@[simp] theorem State.setStaged_curves (h : Head) (b : List Node) (s : State) :
    (s.setStaged h b).curves = s.curves := rfl

@[simp] theorem State.setStaged_live (h : Head) (b : List Node) (s : State) :
    (s.setStaged h b).live = s.live := rfl

@[simp] theorem State.setStaged_staged (h : Head) (b : List Node) (s : State) :
    (s.setStaged h b).staged = s.staged := rfl

@[simp] theorem State.setStaged_views (h : Head) (b : List Node) (s : State) :
    (s.setStaged h b).views = s.views := rfl

@[simp] theorem State.setStaged_source (h : Head) (b : List Node) (s : State) :
    (s.setStaged h b).source = s.source := rfl

@[simp] theorem State.setStaged_buffers (h : Head) (b : List Node) (s : State) :
    (s.setStaged h b).buffers = s.buffers := rfl

@[simp] theorem State.setStaged_dropped (h : Head) (b : List Node) (s : State) :
    (s.setStaged h b).dropped = s.dropped := rfl

@[simp] theorem State.setStaged_repeated (h : Head) (b : List Node) (s : State) :
    (s.setStaged h b).repeated = s.repeated := rfl

@[simp] theorem State.setStaged_broken (h : Head) (b : List Node) (s : State) :
    (s.setStaged h b).broken = s.broken := rfl

@[simp] theorem State.setStaged_baud (h : Head) (b : List Node) (s : State) :
    (s.setStaged h b).baud = s.baud := rfl

@[simp] theorem State.setStaged_ports (h : Head) (b : List Node) (s : State) :
    (s.setStaged h b).ports = s.ports := rfl

@[simp] theorem State.setStaged_queue (h : Head) (b : List Node) (s : State) :
    (s.setStaged h b).queue = s.queue := rfl

@[simp] theorem State.setStaged_inHand (h : Head) (b : List Node) (s : State) :
    (s.setStaged h b).inHand = s.inHand := rfl

@[simp] theorem State.setStaged_startCode (h : Head) (b : List Node) (s : State) :
    (s.setStaged h b).startCode = s.startCode := rfl

@[simp] theorem State.setStaged_startPhase (h : Head) (b : List Node) (s : State) :
    (s.setStaged h b).startPhase = s.startPhase := rfl

@[simp] theorem State.setStaged_stored (h : Head) (b : List Node) (s : State) :
    (s.setStaged h b).stored = s.stored := rfl

@[simp] theorem State.setStaged_save (h : Head) (b : List Node) (s : State) :
    (s.setStaged h b).save = s.save := rfl

@[simp] theorem State.setStaged_image (h : Head) (b : List Node) (s : State) :
    (s.setStaged h b).image = s.image := rfl

@[simp] theorem State.setStaged_abortedOp (h : Head) (b : List Node) (s : State) :
    (s.setStaged h b).abortedOp = s.abortedOp := rfl

@[simp] theorem State.setStaged_flashTimer (h : Head) (b : List Node) (s : State) :
    (s.setStaged h b).flashTimer = s.flashTimer := rfl

@[simp] theorem State.setStaged_flash (h : Head) (b : List Node) (s : State) :
    (s.setStaged h b).flash = s.flash := rfl

@[simp] theorem State.setStaged_pending (h : Head) (b : List Node) (s : State) :
    (s.setStaged h b).pending = s.pending := rfl

/-! ## Lapse timers restarted (`State.restartClaims`) -/

@[simp] theorem State.restartClaims_setup (p : Port) (s : State) :
    (s.restartClaims p).setup = s.setup := rfl

@[simp] theorem State.restartClaims_timing (p : Port) (s : State) :
    (s.restartClaims p).timing = s.timing := rfl

@[simp] theorem State.restartClaims_measured (p : Port) (s : State) :
    (s.restartClaims p).measured = s.measured := rfl

@[simp] theorem State.restartClaims_heads (p : Port) (s : State) :
    (s.restartClaims p).heads = s.heads := rfl

@[simp] theorem State.restartClaims_monitor (p : Port) (s : State) :
    (s.restartClaims p).monitor = s.monitor := rfl

@[simp] theorem State.restartClaims_mesh (p : Port) (s : State) :
    (s.restartClaims p).mesh = s.mesh.map (·.restartTimer p) := rfl

@[simp] theorem State.restartClaims_seams (p : Port) (s : State) :
    (s.restartClaims p).seams = s.seams := rfl

@[simp] theorem State.restartClaims_published (p : Port) (s : State) :
    (s.restartClaims p).published = s.published := rfl

@[simp] theorem State.restartClaims_curves (p : Port) (s : State) :
    (s.restartClaims p).curves = s.curves := rfl

@[simp] theorem State.restartClaims_live (p : Port) (s : State) :
    (s.restartClaims p).live = s.live := rfl

@[simp] theorem State.restartClaims_staged (p : Port) (s : State) :
    (s.restartClaims p).staged = s.staged := rfl

@[simp] theorem State.restartClaims_views (p : Port) (s : State) :
    (s.restartClaims p).views = s.views := rfl

@[simp] theorem State.restartClaims_source (p : Port) (s : State) :
    (s.restartClaims p).source = s.source := rfl

@[simp] theorem State.restartClaims_buffers (p : Port) (s : State) :
    (s.restartClaims p).buffers = s.buffers := rfl

@[simp] theorem State.restartClaims_dropped (p : Port) (s : State) :
    (s.restartClaims p).dropped = s.dropped := rfl

@[simp] theorem State.restartClaims_repeated (p : Port) (s : State) :
    (s.restartClaims p).repeated = s.repeated := rfl

@[simp] theorem State.restartClaims_broken (p : Port) (s : State) :
    (s.restartClaims p).broken = s.broken := rfl

@[simp] theorem State.restartClaims_baud (p : Port) (s : State) :
    (s.restartClaims p).baud = s.baud := rfl

@[simp] theorem State.restartClaims_ports (p : Port) (s : State) :
    (s.restartClaims p).ports = s.ports := rfl

@[simp] theorem State.restartClaims_queue (p : Port) (s : State) :
    (s.restartClaims p).queue = s.queue := rfl

@[simp] theorem State.restartClaims_inHand (p : Port) (s : State) :
    (s.restartClaims p).inHand = s.inHand := rfl

@[simp] theorem State.restartClaims_startCode (p : Port) (s : State) :
    (s.restartClaims p).startCode = s.startCode := rfl

@[simp] theorem State.restartClaims_startPhase (p : Port) (s : State) :
    (s.restartClaims p).startPhase = s.startPhase := rfl

@[simp] theorem State.restartClaims_stored (p : Port) (s : State) :
    (s.restartClaims p).stored = s.stored := rfl

@[simp] theorem State.restartClaims_save (p : Port) (s : State) :
    (s.restartClaims p).save = s.save := rfl

@[simp] theorem State.restartClaims_image (p : Port) (s : State) :
    (s.restartClaims p).image = s.image := rfl

@[simp] theorem State.restartClaims_abortedOp (p : Port) (s : State) :
    (s.restartClaims p).abortedOp = s.abortedOp := rfl

@[simp] theorem State.restartClaims_flashTimer (p : Port) (s : State) :
    (s.restartClaims p).flashTimer = s.flashTimer := rfl

@[simp] theorem State.restartClaims_flash (p : Port) (s : State) :
    (s.restartClaims p).flash = s.flash := rfl

@[simp] theorem State.restartClaims_pending (p : Port) (s : State) :
    (s.restartClaims p).pending = s.pending := rfl

/-! ## The seam view published (`State.publish`) -/

@[simp] theorem State.publish_setup (s : State) :
    (s.publish).setup = s.setup := rfl

@[simp] theorem State.publish_timing (s : State) :
    (s.publish).timing = s.timing := rfl

@[simp] theorem State.publish_measured (s : State) :
    (s.publish).measured = s.measured := rfl

@[simp] theorem State.publish_heads (s : State) :
    (s.publish).heads = s.heads := rfl

@[simp] theorem State.publish_monitor (s : State) :
    (s.publish).monitor = s.monitor := rfl

@[simp] theorem State.publish_mesh (s : State) :
    (s.publish).mesh = s.mesh := rfl

@[simp] theorem State.publish_seams (s : State) :
    (s.publish).seams = s.seams := rfl

@[simp] theorem State.publish_published (s : State) :
    (s.publish).published = some (s.seams.map fun q => q.map fun q => ⟨q.mode, q.fade⟩) := rfl

@[simp] theorem State.publish_curves (s : State) :
    (s.publish).curves = s.curves := rfl

@[simp] theorem State.publish_live (s : State) :
    (s.publish).live = s.live := rfl

@[simp] theorem State.publish_staged (s : State) :
    (s.publish).staged = s.staged := rfl

@[simp] theorem State.publish_views (s : State) :
    (s.publish).views = s.views := rfl

@[simp] theorem State.publish_source (s : State) :
    (s.publish).source = s.source := rfl

@[simp] theorem State.publish_buffers (s : State) :
    (s.publish).buffers = s.buffers := rfl

@[simp] theorem State.publish_dropped (s : State) :
    (s.publish).dropped = s.dropped := rfl

@[simp] theorem State.publish_repeated (s : State) :
    (s.publish).repeated = s.repeated := rfl

@[simp] theorem State.publish_broken (s : State) :
    (s.publish).broken = s.broken := rfl

@[simp] theorem State.publish_baud (s : State) :
    (s.publish).baud = s.baud := rfl

@[simp] theorem State.publish_ports (s : State) :
    (s.publish).ports = s.ports := rfl

@[simp] theorem State.publish_queue (s : State) :
    (s.publish).queue = s.queue := rfl

@[simp] theorem State.publish_inHand (s : State) :
    (s.publish).inHand = s.inHand := rfl

@[simp] theorem State.publish_startCode (s : State) :
    (s.publish).startCode = s.startCode := rfl

@[simp] theorem State.publish_startPhase (s : State) :
    (s.publish).startPhase = s.startPhase := rfl

@[simp] theorem State.publish_stored (s : State) :
    (s.publish).stored = s.stored := rfl

@[simp] theorem State.publish_save (s : State) :
    (s.publish).save = s.save := rfl

@[simp] theorem State.publish_image (s : State) :
    (s.publish).image = s.image := rfl

@[simp] theorem State.publish_abortedOp (s : State) :
    (s.publish).abortedOp = s.abortedOp := rfl

@[simp] theorem State.publish_flashTimer (s : State) :
    (s.publish).flashTimer = s.flashTimer := rfl

@[simp] theorem State.publish_flash (s : State) :
    (s.publish).flash = s.flash := rfl

@[simp] theorem State.publish_pending (s : State) :
    (s.publish).pending = s.pending := rfl

/-! ## The frame views taken (`State.takeViews`) -/

@[simp] theorem State.takeViews_setup (s : State) :
    (s.takeViews).setup = s.setup := rfl

@[simp] theorem State.takeViews_timing (s : State) :
    (s.takeViews).timing = s.timing := rfl

@[simp] theorem State.takeViews_measured (s : State) :
    (s.takeViews).measured = s.measured := rfl

@[simp] theorem State.takeViews_heads (s : State) :
    (s.takeViews).heads = s.heads := rfl

@[simp] theorem State.takeViews_monitor (s : State) :
    (s.takeViews).monitor = s.monitor := rfl

@[simp] theorem State.takeViews_mesh (s : State) :
    (s.takeViews).mesh = s.mesh := rfl

@[simp] theorem State.takeViews_seams (s : State) :
    (s.takeViews).seams = s.seams := rfl

@[simp] theorem State.takeViews_published (s : State) :
    (s.takeViews).published = s.published := rfl

@[simp] theorem State.takeViews_curves (s : State) :
    (s.takeViews).curves = s.curves := rfl

@[simp] theorem State.takeViews_live (s : State) :
    (s.takeViews).live = s.live := rfl

@[simp] theorem State.takeViews_staged (s : State) :
    (s.takeViews).staged = s.staged := rfl

@[simp] theorem State.takeViews_views (s : State) :
    (s.takeViews).views = Quad.ofFn fun h => some (s.viewOf h) := rfl

@[simp] theorem State.takeViews_source (s : State) :
    (s.takeViews).source = s.source := rfl

@[simp] theorem State.takeViews_buffers (s : State) :
    (s.takeViews).buffers = s.buffers := rfl

@[simp] theorem State.takeViews_dropped (s : State) :
    (s.takeViews).dropped = s.dropped := rfl

@[simp] theorem State.takeViews_repeated (s : State) :
    (s.takeViews).repeated = s.repeated := rfl

@[simp] theorem State.takeViews_broken (s : State) :
    (s.takeViews).broken = s.broken := rfl

@[simp] theorem State.takeViews_baud (s : State) :
    (s.takeViews).baud = s.baud := rfl

@[simp] theorem State.takeViews_ports (s : State) :
    (s.takeViews).ports = s.ports := rfl

@[simp] theorem State.takeViews_queue (s : State) :
    (s.takeViews).queue = s.queue := rfl

@[simp] theorem State.takeViews_inHand (s : State) :
    (s.takeViews).inHand = s.inHand := rfl

@[simp] theorem State.takeViews_startCode (s : State) :
    (s.takeViews).startCode = s.startCode := rfl

@[simp] theorem State.takeViews_startPhase (s : State) :
    (s.takeViews).startPhase = s.startPhase := rfl

@[simp] theorem State.takeViews_stored (s : State) :
    (s.takeViews).stored = s.stored := rfl

@[simp] theorem State.takeViews_save (s : State) :
    (s.takeViews).save = s.save := rfl

@[simp] theorem State.takeViews_image (s : State) :
    (s.takeViews).image = s.image := rfl

@[simp] theorem State.takeViews_abortedOp (s : State) :
    (s.takeViews).abortedOp = s.abortedOp := rfl

@[simp] theorem State.takeViews_flashTimer (s : State) :
    (s.takeViews).flashTimer = s.flashTimer := rfl

@[simp] theorem State.takeViews_flash (s : State) :
    (s.takeViews).flash = s.flash := rfl

@[simp] theorem State.takeViews_pending (s : State) :
    (s.takeViews).pending = s.pending := rfl

/-- Two states whose fields agree are equal. -/
theorem State.eq_of_fields {s t : State}
    (h_setup : s.setup = t.setup)
    (h_timing : s.timing = t.timing)
    (h_measured : s.measured = t.measured)
    (h_heads : s.heads = t.heads)
    (h_monitor : s.monitor = t.monitor)
    (h_mesh : s.mesh = t.mesh)
    (h_seams : s.seams = t.seams)
    (h_published : s.published = t.published)
    (h_curves : s.curves = t.curves)
    (h_live : s.live = t.live)
    (h_staged : s.staged = t.staged)
    (h_views : s.views = t.views)
    (h_source : s.source = t.source)
    (h_buffers : s.buffers = t.buffers)
    (h_dropped : s.dropped = t.dropped)
    (h_repeated : s.repeated = t.repeated)
    (h_broken : s.broken = t.broken)
    (h_baud : s.baud = t.baud)
    (h_ports : s.ports = t.ports)
    (h_queue : s.queue = t.queue)
    (h_inHand : s.inHand = t.inHand)
    (h_startCode : s.startCode = t.startCode)
    (h_startPhase : s.startPhase = t.startPhase)
    (h_stored : s.stored = t.stored)
    (h_save : s.save = t.save)
    (h_image : s.image = t.image)
    (h_abortedOp : s.abortedOp = t.abortedOp)
    (h_flashTimer : s.flashTimer = t.flashTimer)
    (h_flash : s.flash = t.flash)
    (h_pending : s.pending = t.pending) : s = t := by
  cases s; cases t; simp_all

end Sys2Proof.Machine
end

