-- ==== Sys2Proof/Laws/Frames.lean ====
section
/-! SUPPORT. What each shared operation leaves as it is: one lemma per operation, a clause per field. -/

namespace Sys2Proof.Machine

/-- What every step of a forEach keeps, the forEach keeps. -/
theorem forEach_keeps {α : Type} (g : State → α) (f : Idx4 → State → State) (h : ∀ i s, g (f i s) = g s)
    (s : State) : g (forEach f s) = g s := by
  simp only [forEach, h]

@[simp] theorem State.elapseTo_keeps (l t : Nat) (s : State) :
    (s.elapseTo l t).setup = s.setup ∧
    (s.elapseTo l t).measured = s.measured ∧
    (s.elapseTo l t).heads = s.heads ∧
    (s.elapseTo l t).seams = s.seams ∧
    (s.elapseTo l t).published = s.published ∧
    (s.elapseTo l t).curves = s.curves ∧
    (s.elapseTo l t).live = s.live ∧
    (s.elapseTo l t).staged = s.staged ∧
    (s.elapseTo l t).views = s.views ∧
    (s.elapseTo l t).buffers = s.buffers ∧
    (s.elapseTo l t).dropped = s.dropped ∧
    (s.elapseTo l t).repeated = s.repeated ∧
    (s.elapseTo l t).broken = s.broken ∧
    (s.elapseTo l t).baud = s.baud ∧
    (s.elapseTo l t).queue = s.queue ∧
    (s.elapseTo l t).inHand = s.inHand ∧
    (s.elapseTo l t).startCode = s.startCode ∧
    (s.elapseTo l t).startPhase = s.startPhase ∧
    (s.elapseTo l t).stored = s.stored ∧
    (s.elapseTo l t).save = s.save ∧
    (s.elapseTo l t).image = s.image ∧
    (s.elapseTo l t).abortedOp = s.abortedOp ∧
    (s.elapseTo l t).flash = s.flash ∧
    (s.elapseTo l t).pending = s.pending :=
  ⟨rfl, rfl, rfl, rfl, rfl, rfl, rfl, rfl, rfl, rfl, rfl, rfl, rfl, rfl, rfl, rfl, rfl, rfl, rfl, rfl,
    rfl, rfl, rfl, rfl⟩

@[simp] theorem State.putSeam_keeps (sl : Slot) (r : Seam × Bool) (s : State) :
    (s.putSeam sl r).setup = s.setup ∧
    (s.putSeam sl r).timing = s.timing ∧
    (s.putSeam sl r).measured = s.measured ∧
    (s.putSeam sl r).heads = s.heads ∧
    (s.putSeam sl r).monitor = s.monitor ∧
    (s.putSeam sl r).mesh = s.mesh ∧
    (s.putSeam sl r).published = s.published ∧
    (s.putSeam sl r).curves = s.curves ∧
    (s.putSeam sl r).live = s.live ∧
    (s.putSeam sl r).staged = s.staged ∧
    (s.putSeam sl r).views = s.views ∧
    (s.putSeam sl r).source = s.source ∧
    (s.putSeam sl r).buffers = s.buffers ∧
    (s.putSeam sl r).dropped = s.dropped ∧
    (s.putSeam sl r).repeated = s.repeated ∧
    (s.putSeam sl r).broken = s.broken ∧
    (s.putSeam sl r).baud = s.baud ∧
    (s.putSeam sl r).queue = s.queue ∧
    (s.putSeam sl r).inHand = s.inHand ∧
    (s.putSeam sl r).startCode = s.startCode ∧
    (s.putSeam sl r).startPhase = s.startPhase ∧
    (s.putSeam sl r).stored = s.stored ∧
    (s.putSeam sl r).save = s.save ∧
    (s.putSeam sl r).image = s.image ∧
    (s.putSeam sl r).abortedOp = s.abortedOp ∧
    (s.putSeam sl r).flashTimer = s.flashTimer ∧
    (s.putSeam sl r).flash = s.flash ∧
    (s.putSeam sl r).pending = s.pending :=
  by unfold State.putSeam; split <;> simp

@[simp] theorem State.placeSeam_keeps (sl : Slot) (g : SeamGeometry) (pin : Pin) (a b : Nat) (s : State) :
    (s.placeSeam sl g pin a b).setup = s.setup ∧
    (s.placeSeam sl g pin a b).timing = s.timing ∧
    (s.placeSeam sl g pin a b).measured = s.measured ∧
    (s.placeSeam sl g pin a b).heads = s.heads ∧
    (s.placeSeam sl g pin a b).monitor = s.monitor ∧
    (s.placeSeam sl g pin a b).mesh = s.mesh ∧
    (s.placeSeam sl g pin a b).published = s.published ∧
    (s.placeSeam sl g pin a b).curves = s.curves ∧
    (s.placeSeam sl g pin a b).live = s.live ∧
    (s.placeSeam sl g pin a b).staged = s.staged ∧
    (s.placeSeam sl g pin a b).views = s.views ∧
    (s.placeSeam sl g pin a b).source = s.source ∧
    (s.placeSeam sl g pin a b).buffers = s.buffers ∧
    (s.placeSeam sl g pin a b).dropped = s.dropped ∧
    (s.placeSeam sl g pin a b).repeated = s.repeated ∧
    (s.placeSeam sl g pin a b).broken = s.broken ∧
    (s.placeSeam sl g pin a b).baud = s.baud ∧
    (s.placeSeam sl g pin a b).ports = s.ports ∧
    (s.placeSeam sl g pin a b).queue = s.queue ∧
    (s.placeSeam sl g pin a b).inHand = s.inHand ∧
    (s.placeSeam sl g pin a b).startCode = s.startCode ∧
    (s.placeSeam sl g pin a b).startPhase = s.startPhase ∧
    (s.placeSeam sl g pin a b).stored = s.stored ∧
    (s.placeSeam sl g pin a b).save = s.save ∧
    (s.placeSeam sl g pin a b).image = s.image ∧
    (s.placeSeam sl g pin a b).abortedOp = s.abortedOp ∧
    (s.placeSeam sl g pin a b).flashTimer = s.flashTimer ∧
    (s.placeSeam sl g pin a b).flash = s.flash ∧
    (s.placeSeam sl g pin a b).pending = s.pending :=
  ⟨rfl, rfl, rfl, rfl, rfl, rfl, rfl, rfl, rfl, rfl, rfl, rfl, rfl, rfl, rfl, rfl, rfl, rfl, rfl, rfl,
    rfl, rfl, rfl, rfl, rfl, rfl, rfl, rfl, rfl⟩

@[simp] theorem State.retargetSlot_keeps (sl : Slot) (s : State) :
    (s.retargetSlot sl).setup = s.setup ∧
    (s.retargetSlot sl).timing = s.timing ∧
    (s.retargetSlot sl).measured = s.measured ∧
    (s.retargetSlot sl).heads = s.heads ∧
    (s.retargetSlot sl).monitor = s.monitor ∧
    (s.retargetSlot sl).mesh = s.mesh ∧
    (s.retargetSlot sl).published = s.published ∧
    (s.retargetSlot sl).curves = s.curves ∧
    (s.retargetSlot sl).live = s.live ∧
    (s.retargetSlot sl).staged = s.staged ∧
    (s.retargetSlot sl).views = s.views ∧
    (s.retargetSlot sl).source = s.source ∧
    (s.retargetSlot sl).buffers = s.buffers ∧
    (s.retargetSlot sl).dropped = s.dropped ∧
    (s.retargetSlot sl).repeated = s.repeated ∧
    (s.retargetSlot sl).broken = s.broken ∧
    (s.retargetSlot sl).baud = s.baud ∧
    (s.retargetSlot sl).queue = s.queue ∧
    (s.retargetSlot sl).inHand = s.inHand ∧
    (s.retargetSlot sl).startCode = s.startCode ∧
    (s.retargetSlot sl).startPhase = s.startPhase ∧
    (s.retargetSlot sl).stored = s.stored ∧
    (s.retargetSlot sl).save = s.save ∧
    (s.retargetSlot sl).image = s.image ∧
    (s.retargetSlot sl).abortedOp = s.abortedOp ∧
    (s.retargetSlot sl).flashTimer = s.flashTimer ∧
    (s.retargetSlot sl).flash = s.flash ∧
    (s.retargetSlot sl).pending = s.pending :=
  by unfold State.retargetSlot; split <;> simp

@[simp] theorem State.advanceFade_keeps (sl : Slot) (s : State) :
    (s.advanceFade sl).setup = s.setup ∧
    (s.advanceFade sl).timing = s.timing ∧
    (s.advanceFade sl).measured = s.measured ∧
    (s.advanceFade sl).heads = s.heads ∧
    (s.advanceFade sl).monitor = s.monitor ∧
    (s.advanceFade sl).mesh = s.mesh ∧
    (s.advanceFade sl).published = s.published ∧
    (s.advanceFade sl).curves = s.curves ∧
    (s.advanceFade sl).live = s.live ∧
    (s.advanceFade sl).staged = s.staged ∧
    (s.advanceFade sl).views = s.views ∧
    (s.advanceFade sl).source = s.source ∧
    (s.advanceFade sl).buffers = s.buffers ∧
    (s.advanceFade sl).dropped = s.dropped ∧
    (s.advanceFade sl).repeated = s.repeated ∧
    (s.advanceFade sl).broken = s.broken ∧
    (s.advanceFade sl).baud = s.baud ∧
    (s.advanceFade sl).queue = s.queue ∧
    (s.advanceFade sl).inHand = s.inHand ∧
    (s.advanceFade sl).startCode = s.startCode ∧
    (s.advanceFade sl).startPhase = s.startPhase ∧
    (s.advanceFade sl).stored = s.stored ∧
    (s.advanceFade sl).save = s.save ∧
    (s.advanceFade sl).image = s.image ∧
    (s.advanceFade sl).abortedOp = s.abortedOp ∧
    (s.advanceFade sl).flashTimer = s.flashTimer ∧
    (s.advanceFade sl).flash = s.flash ∧
    (s.advanceFade sl).pending = s.pending :=
  by unfold State.advanceFade; split <;> simp

@[simp] theorem State.endFade_keeps (sl : Slot) (s : State) :
    (s.endFade sl).setup = s.setup ∧
    (s.endFade sl).timing = s.timing ∧
    (s.endFade sl).measured = s.measured ∧
    (s.endFade sl).heads = s.heads ∧
    (s.endFade sl).monitor = s.monitor ∧
    (s.endFade sl).mesh = s.mesh ∧
    (s.endFade sl).published = s.published ∧
    (s.endFade sl).curves = s.curves ∧
    (s.endFade sl).live = s.live ∧
    (s.endFade sl).staged = s.staged ∧
    (s.endFade sl).views = s.views ∧
    (s.endFade sl).source = s.source ∧
    (s.endFade sl).buffers = s.buffers ∧
    (s.endFade sl).dropped = s.dropped ∧
    (s.endFade sl).repeated = s.repeated ∧
    (s.endFade sl).broken = s.broken ∧
    (s.endFade sl).baud = s.baud ∧
    (s.endFade sl).queue = s.queue ∧
    (s.endFade sl).inHand = s.inHand ∧
    (s.endFade sl).startCode = s.startCode ∧
    (s.endFade sl).startPhase = s.startPhase ∧
    (s.endFade sl).stored = s.stored ∧
    (s.endFade sl).save = s.save ∧
    (s.endFade sl).image = s.image ∧
    (s.endFade sl).abortedOp = s.abortedOp ∧
    (s.endFade sl).flashTimer = s.flashTimer ∧
    (s.endFade sl).flash = s.flash ∧
    (s.endFade sl).pending = s.pending :=
  by unfold State.endFade; split <;> simp

@[simp] theorem State.retargetNamed_keeps (h : Head) (sl : Slot) (s : State) :
    (s.retargetNamed h sl).setup = s.setup ∧
    (s.retargetNamed h sl).timing = s.timing ∧
    (s.retargetNamed h sl).measured = s.measured ∧
    (s.retargetNamed h sl).heads = s.heads ∧
    (s.retargetNamed h sl).monitor = s.monitor ∧
    (s.retargetNamed h sl).mesh = s.mesh ∧
    (s.retargetNamed h sl).published = s.published ∧
    (s.retargetNamed h sl).curves = s.curves ∧
    (s.retargetNamed h sl).live = s.live ∧
    (s.retargetNamed h sl).staged = s.staged ∧
    (s.retargetNamed h sl).views = s.views ∧
    (s.retargetNamed h sl).source = s.source ∧
    (s.retargetNamed h sl).buffers = s.buffers ∧
    (s.retargetNamed h sl).dropped = s.dropped ∧
    (s.retargetNamed h sl).repeated = s.repeated ∧
    (s.retargetNamed h sl).broken = s.broken ∧
    (s.retargetNamed h sl).baud = s.baud ∧
    (s.retargetNamed h sl).queue = s.queue ∧
    (s.retargetNamed h sl).inHand = s.inHand ∧
    (s.retargetNamed h sl).startCode = s.startCode ∧
    (s.retargetNamed h sl).startPhase = s.startPhase ∧
    (s.retargetNamed h sl).stored = s.stored ∧
    (s.retargetNamed h sl).save = s.save ∧
    (s.retargetNamed h sl).image = s.image ∧
    (s.retargetNamed h sl).abortedOp = s.abortedOp ∧
    (s.retargetNamed h sl).flashTimer = s.flashTimer ∧
    (s.retargetNamed h sl).flash = s.flash ∧
    (s.retargetNamed h sl).pending = s.pending :=
  by unfold State.retargetNamed; split <;> [simp; (split <;> simp)]

@[simp] theorem State.retargetHead_keeps (h : Head) (s : State) :
    (s.retargetHead h).setup = s.setup ∧
    (s.retargetHead h).timing = s.timing ∧
    (s.retargetHead h).measured = s.measured ∧
    (s.retargetHead h).heads = s.heads ∧
    (s.retargetHead h).monitor = s.monitor ∧
    (s.retargetHead h).mesh = s.mesh ∧
    (s.retargetHead h).published = s.published ∧
    (s.retargetHead h).curves = s.curves ∧
    (s.retargetHead h).live = s.live ∧
    (s.retargetHead h).staged = s.staged ∧
    (s.retargetHead h).views = s.views ∧
    (s.retargetHead h).source = s.source ∧
    (s.retargetHead h).buffers = s.buffers ∧
    (s.retargetHead h).dropped = s.dropped ∧
    (s.retargetHead h).repeated = s.repeated ∧
    (s.retargetHead h).broken = s.broken ∧
    (s.retargetHead h).baud = s.baud ∧
    (s.retargetHead h).queue = s.queue ∧
    (s.retargetHead h).inHand = s.inHand ∧
    (s.retargetHead h).startCode = s.startCode ∧
    (s.retargetHead h).startPhase = s.startPhase ∧
    (s.retargetHead h).stored = s.stored ∧
    (s.retargetHead h).save = s.save ∧
    (s.retargetHead h).image = s.image ∧
    (s.retargetHead h).abortedOp = s.abortedOp ∧
    (s.retargetHead h).flashTimer = s.flashTimer ∧
    (s.retargetHead h).flash = s.flash ∧
    (s.retargetHead h).pending = s.pending :=
  by simp [State.retargetHead, forEach]

@[simp] theorem State.rederive_keeps (h : Head) (s : State) :
    (s.rederive h).setup = s.setup ∧
    (s.rederive h).timing = s.timing ∧
    (s.rederive h).measured = s.measured ∧
    (s.rederive h).heads = s.heads ∧
    (s.rederive h).mesh = s.mesh ∧
    (s.rederive h).published = s.published ∧
    (s.rederive h).curves = s.curves ∧
    (s.rederive h).live = s.live ∧
    (s.rederive h).staged = s.staged ∧
    (s.rederive h).views = s.views ∧
    (s.rederive h).source = s.source ∧
    (s.rederive h).buffers = s.buffers ∧
    (s.rederive h).dropped = s.dropped ∧
    (s.rederive h).repeated = s.repeated ∧
    (s.rederive h).broken = s.broken ∧
    (s.rederive h).baud = s.baud ∧
    (s.rederive h).queue = s.queue ∧
    (s.rederive h).inHand = s.inHand ∧
    (s.rederive h).startCode = s.startCode ∧
    (s.rederive h).startPhase = s.startPhase ∧
    (s.rederive h).stored = s.stored ∧
    (s.rederive h).save = s.save ∧
    (s.rederive h).image = s.image ∧
    (s.rederive h).abortedOp = s.abortedOp ∧
    (s.rederive h).flashTimer = s.flashTimer ∧
    (s.rederive h).flash = s.flash ∧
    (s.rederive h).pending = s.pending :=
  by unfold State.rederive; dsimp only; split <;> simp

@[simp] theorem State.setPresence_keeps (h : Head) (x : Presence) (s : State) :
    (s.setPresence h x).setup = s.setup ∧
    (s.setPresence h x).timing = s.timing ∧
    (s.setPresence h x).measured = s.measured ∧
    (s.setPresence h x).heads = s.heads ∧
    (s.setPresence h x).mesh = s.mesh ∧
    (s.setPresence h x).published = s.published ∧
    (s.setPresence h x).curves = s.curves ∧
    (s.setPresence h x).live = s.live ∧
    (s.setPresence h x).staged = s.staged ∧
    (s.setPresence h x).views = s.views ∧
    (s.setPresence h x).source = s.source ∧
    (s.setPresence h x).buffers = s.buffers ∧
    (s.setPresence h x).dropped = s.dropped ∧
    (s.setPresence h x).repeated = s.repeated ∧
    (s.setPresence h x).broken = s.broken ∧
    (s.setPresence h x).baud = s.baud ∧
    (s.setPresence h x).queue = s.queue ∧
    (s.setPresence h x).inHand = s.inHand ∧
    (s.setPresence h x).startCode = s.startCode ∧
    (s.setPresence h x).startPhase = s.startPhase ∧
    (s.setPresence h x).stored = s.stored ∧
    (s.setPresence h x).save = s.save ∧
    (s.setPresence h x).image = s.image ∧
    (s.setPresence h x).abortedOp = s.abortedOp ∧
    (s.setPresence h x).flashTimer = s.flashTimer ∧
    (s.setPresence h x).flash = s.flash ∧
    (s.setPresence h x).pending = s.pending :=
  by simp [State.setPresence]

@[simp] theorem State.hear_keeps (k : Head) (s : State) :
    (s.hear k).setup = s.setup ∧
    (s.hear k).timing = s.timing ∧
    (s.hear k).measured = s.measured ∧
    (s.hear k).heads = s.heads ∧
    (s.hear k).mesh = s.mesh ∧
    (s.hear k).published = s.published ∧
    (s.hear k).curves = s.curves ∧
    (s.hear k).live = s.live ∧
    (s.hear k).staged = s.staged ∧
    (s.hear k).views = s.views ∧
    (s.hear k).source = s.source ∧
    (s.hear k).buffers = s.buffers ∧
    (s.hear k).dropped = s.dropped ∧
    (s.hear k).repeated = s.repeated ∧
    (s.hear k).broken = s.broken ∧
    (s.hear k).baud = s.baud ∧
    (s.hear k).queue = s.queue ∧
    (s.hear k).inHand = s.inHand ∧
    (s.hear k).startCode = s.startCode ∧
    (s.hear k).startPhase = s.startPhase ∧
    (s.hear k).stored = s.stored ∧
    (s.hear k).save = s.save ∧
    (s.hear k).image = s.image ∧
    (s.hear k).abortedOp = s.abortedOp ∧
    (s.hear k).flashTimer = s.flashTimer ∧
    (s.hear k).flash = s.flash ∧
    (s.hear k).pending = s.pending :=
  by unfold State.hear; split <;> simp

@[simp] theorem State.loseClaim_keeps (h : Head) (o : Port) (s : State) :
    (s.loseClaim h o).setup = s.setup ∧
    (s.loseClaim h o).timing = s.timing ∧
    (s.loseClaim h o).measured = s.measured ∧
    (s.loseClaim h o).heads = s.heads ∧
    (s.loseClaim h o).monitor = s.monitor ∧
    (s.loseClaim h o).seams = s.seams ∧
    (s.loseClaim h o).published = s.published ∧
    (s.loseClaim h o).curves = s.curves ∧
    (s.loseClaim h o).live = s.live ∧
    (s.loseClaim h o).staged = s.staged ∧
    (s.loseClaim h o).views = s.views ∧
    (s.loseClaim h o).source = s.source ∧
    (s.loseClaim h o).buffers = s.buffers ∧
    (s.loseClaim h o).dropped = s.dropped ∧
    (s.loseClaim h o).repeated = s.repeated ∧
    (s.loseClaim h o).broken = s.broken ∧
    (s.loseClaim h o).baud = s.baud ∧
    (s.loseClaim h o).queue = s.queue ∧
    (s.loseClaim h o).inHand = s.inHand ∧
    (s.loseClaim h o).startCode = s.startCode ∧
    (s.loseClaim h o).startPhase = s.startPhase ∧
    (s.loseClaim h o).stored = s.stored ∧
    (s.loseClaim h o).save = s.save ∧
    (s.loseClaim h o).image = s.image ∧
    (s.loseClaim h o).abortedOp = s.abortedOp ∧
    (s.loseClaim h o).flashTimer = s.flashTimer ∧
    (s.loseClaim h o).flash = s.flash ∧
    (s.loseClaim h o).pending = s.pending :=
  ⟨rfl, rfl, rfl, rfl, rfl, rfl, rfl, rfl, rfl, rfl, rfl, rfl, rfl, rfl, rfl, rfl, rfl, rfl, rfl, rfl,
    rfl, rfl, rfl, rfl, rfl, rfl, rfl, rfl⟩

@[simp] theorem State.land_keeps (h : Head) (s : State) :
    (s.land h).setup = s.setup ∧
    (s.land h).timing = s.timing ∧
    (s.land h).measured = s.measured ∧
    (s.land h).heads = s.heads ∧
    (s.land h).monitor = s.monitor ∧
    (s.land h).seams = s.seams ∧
    (s.land h).published = s.published ∧
    (s.land h).curves = s.curves ∧
    (s.land h).live = s.live ∧
    (s.land h).staged = s.staged ∧
    (s.land h).views = s.views ∧
    (s.land h).source = s.source ∧
    (s.land h).buffers = s.buffers ∧
    (s.land h).dropped = s.dropped ∧
    (s.land h).repeated = s.repeated ∧
    (s.land h).broken = s.broken ∧
    (s.land h).baud = s.baud ∧
    (s.land h).queue = s.queue ∧
    (s.land h).inHand = s.inHand ∧
    (s.land h).startCode = s.startCode ∧
    (s.land h).startPhase = s.startPhase ∧
    (s.land h).stored = s.stored ∧
    (s.land h).save = s.save ∧
    (s.land h).image = s.image ∧
    (s.land h).abortedOp = s.abortedOp ∧
    (s.land h).flashTimer = s.flashTimer ∧
    (s.land h).flash = s.flash ∧
    (s.land h).pending = s.pending :=
  by unfold State.land; dsimp only; split <;> simp

@[simp] theorem State.landAll_keeps (s : State) :
    (s.landAll).setup = s.setup ∧
    (s.landAll).timing = s.timing ∧
    (s.landAll).measured = s.measured ∧
    (s.landAll).heads = s.heads ∧
    (s.landAll).monitor = s.monitor ∧
    (s.landAll).seams = s.seams ∧
    (s.landAll).published = s.published ∧
    (s.landAll).curves = s.curves ∧
    (s.landAll).live = s.live ∧
    (s.landAll).staged = s.staged ∧
    (s.landAll).views = s.views ∧
    (s.landAll).source = s.source ∧
    (s.landAll).buffers = s.buffers ∧
    (s.landAll).dropped = s.dropped ∧
    (s.landAll).repeated = s.repeated ∧
    (s.landAll).broken = s.broken ∧
    (s.landAll).baud = s.baud ∧
    (s.landAll).queue = s.queue ∧
    (s.landAll).inHand = s.inHand ∧
    (s.landAll).startCode = s.startCode ∧
    (s.landAll).startPhase = s.startPhase ∧
    (s.landAll).stored = s.stored ∧
    (s.landAll).save = s.save ∧
    (s.landAll).image = s.image ∧
    (s.landAll).abortedOp = s.abortedOp ∧
    (s.landAll).flashTimer = s.flashTimer ∧
    (s.landAll).flash = s.flash ∧
    (s.landAll).pending = s.pending := by
  unfold State.landAll
  split
  · simp
  · simp [forEach]

@[simp] theorem State.commit_keeps (h : Head) (s : State) :
    (s.commit h).setup = s.setup ∧
    (s.commit h).timing = s.timing ∧
    (s.commit h).measured = s.measured ∧
    (s.commit h).heads = s.heads ∧
    (s.commit h).monitor = s.monitor ∧
    (s.commit h).seams = s.seams ∧
    (s.commit h).published = s.published ∧
    (s.commit h).curves = s.curves ∧
    (s.commit h).live = s.live ∧
    (s.commit h).staged = s.staged ∧
    (s.commit h).views = s.views ∧
    (s.commit h).source = s.source ∧
    (s.commit h).buffers = s.buffers ∧
    (s.commit h).dropped = s.dropped ∧
    (s.commit h).repeated = s.repeated ∧
    (s.commit h).broken = s.broken ∧
    (s.commit h).baud = s.baud ∧
    (s.commit h).queue = s.queue ∧
    (s.commit h).inHand = s.inHand ∧
    (s.commit h).startCode = s.startCode ∧
    (s.commit h).startPhase = s.startPhase ∧
    (s.commit h).stored = s.stored ∧
    (s.commit h).save = s.save ∧
    (s.commit h).image = s.image ∧
    (s.commit h).abortedOp = s.abortedOp ∧
    (s.commit h).flashTimer = s.flashTimer ∧
    (s.commit h).flash = s.flash ∧
    (s.commit h).pending = s.pending :=
  by unfold State.commit; dsimp only; split <;> simp

@[simp] theorem State.setInput_keeps (x : InputState) (s : State) :
    (s.setInput x).setup = s.setup ∧
    (s.setInput x).timing = s.timing ∧
    (s.setInput x).measured = s.measured ∧
    (s.setInput x).heads = s.heads ∧
    (s.setInput x).monitor = s.monitor ∧
    (s.setInput x).mesh = s.mesh ∧
    (s.setInput x).seams = s.seams ∧
    (s.setInput x).published = s.published ∧
    (s.setInput x).curves = s.curves ∧
    (s.setInput x).live = s.live ∧
    (s.setInput x).staged = s.staged ∧
    (s.setInput x).views = s.views ∧
    (s.setInput x).buffers = s.buffers ∧
    (s.setInput x).dropped = s.dropped ∧
    (s.setInput x).repeated = s.repeated ∧
    (s.setInput x).broken = s.broken ∧
    (s.setInput x).baud = s.baud ∧
    (s.setInput x).queue = s.queue ∧
    (s.setInput x).inHand = s.inHand ∧
    (s.setInput x).startCode = s.startCode ∧
    (s.setInput x).startPhase = s.startPhase ∧
    (s.setInput x).stored = s.stored ∧
    (s.setInput x).save = s.save ∧
    (s.setInput x).image = s.image ∧
    (s.setInput x).abortedOp = s.abortedOp ∧
    (s.setInput x).flashTimer = s.flashTimer ∧
    (s.setInput x).flash = s.flash ∧
    (s.setInput x).pending = s.pending :=
  by unfold State.setInput; split <;> simp

@[simp] theorem State.cutFrame_keeps (s : State) :
    (s.cutFrame).setup = s.setup ∧
    (s.cutFrame).timing = s.timing ∧
    (s.cutFrame).measured = s.measured ∧
    (s.cutFrame).heads = s.heads ∧
    (s.cutFrame).monitor = s.monitor ∧
    (s.cutFrame).mesh = s.mesh ∧
    (s.cutFrame).seams = s.seams ∧
    (s.cutFrame).published = s.published ∧
    (s.cutFrame).curves = s.curves ∧
    (s.cutFrame).live = s.live ∧
    (s.cutFrame).staged = s.staged ∧
    (s.cutFrame).views = s.views ∧
    (s.cutFrame).source = s.source ∧
    (s.cutFrame).dropped = s.dropped ∧
    (s.cutFrame).repeated = s.repeated ∧
    (s.cutFrame).baud = s.baud ∧
    (s.cutFrame).ports = s.ports ∧
    (s.cutFrame).queue = s.queue ∧
    (s.cutFrame).inHand = s.inHand ∧
    (s.cutFrame).startCode = s.startCode ∧
    (s.cutFrame).startPhase = s.startPhase ∧
    (s.cutFrame).stored = s.stored ∧
    (s.cutFrame).save = s.save ∧
    (s.cutFrame).image = s.image ∧
    (s.cutFrame).abortedOp = s.abortedOp ∧
    (s.cutFrame).flashTimer = s.flashTimer ∧
    (s.cutFrame).flash = s.flash ∧
    (s.cutFrame).pending = s.pending :=
  by unfold State.cutFrame; split <;> simp

@[simp] theorem State.advanceHold_keeps (s : State) :
    (s.advanceHold).setup = s.setup ∧
    (s.advanceHold).timing = s.timing ∧
    (s.advanceHold).measured = s.measured ∧
    (s.advanceHold).heads = s.heads ∧
    (s.advanceHold).monitor = s.monitor ∧
    (s.advanceHold).mesh = s.mesh ∧
    (s.advanceHold).seams = s.seams ∧
    (s.advanceHold).published = s.published ∧
    (s.advanceHold).curves = s.curves ∧
    (s.advanceHold).live = s.live ∧
    (s.advanceHold).staged = s.staged ∧
    (s.advanceHold).views = s.views ∧
    (s.advanceHold).buffers = s.buffers ∧
    (s.advanceHold).dropped = s.dropped ∧
    (s.advanceHold).repeated = s.repeated ∧
    (s.advanceHold).broken = s.broken ∧
    (s.advanceHold).baud = s.baud ∧
    (s.advanceHold).queue = s.queue ∧
    (s.advanceHold).inHand = s.inHand ∧
    (s.advanceHold).startCode = s.startCode ∧
    (s.advanceHold).startPhase = s.startPhase ∧
    (s.advanceHold).stored = s.stored ∧
    (s.advanceHold).save = s.save ∧
    (s.advanceHold).image = s.image ∧
    (s.advanceHold).abortedOp = s.abortedOp ∧
    (s.advanceHold).flashTimer = s.flashTimer ∧
    (s.advanceHold).flash = s.flash ∧
    (s.advanceHold).pending = s.pending :=
  by unfold State.advanceHold; dsimp only; split <;> [(split <;> simp); simp]

@[simp] theorem State.chooseBuffer_keeps (s : State) :
    (s.chooseBuffer).setup = s.setup ∧
    (s.chooseBuffer).timing = s.timing ∧
    (s.chooseBuffer).measured = s.measured ∧
    (s.chooseBuffer).heads = s.heads ∧
    (s.chooseBuffer).monitor = s.monitor ∧
    (s.chooseBuffer).mesh = s.mesh ∧
    (s.chooseBuffer).seams = s.seams ∧
    (s.chooseBuffer).published = s.published ∧
    (s.chooseBuffer).curves = s.curves ∧
    (s.chooseBuffer).live = s.live ∧
    (s.chooseBuffer).staged = s.staged ∧
    (s.chooseBuffer).views = s.views ∧
    (s.chooseBuffer).source = s.source ∧
    (s.chooseBuffer).dropped = s.dropped ∧
    (s.chooseBuffer).broken = s.broken ∧
    (s.chooseBuffer).baud = s.baud ∧
    (s.chooseBuffer).ports = s.ports ∧
    (s.chooseBuffer).queue = s.queue ∧
    (s.chooseBuffer).inHand = s.inHand ∧
    (s.chooseBuffer).startCode = s.startCode ∧
    (s.chooseBuffer).startPhase = s.startPhase ∧
    (s.chooseBuffer).stored = s.stored ∧
    (s.chooseBuffer).save = s.save ∧
    (s.chooseBuffer).image = s.image ∧
    (s.chooseBuffer).abortedOp = s.abortedOp ∧
    (s.chooseBuffer).flashTimer = s.flashTimer ∧
    (s.chooseBuffer).flash = s.flash ∧
    (s.chooseBuffer).pending = s.pending :=
  by unfold State.chooseBuffer; split <;> [simp; (split <;> [simp; (split <;> simp)])]

@[simp] theorem State.outputFrameStart_keeps (s : State) :
    (s.outputFrameStart).setup = s.setup ∧
    (s.outputFrameStart).timing = s.timing ∧
    (s.outputFrameStart).measured = s.measured ∧
    (s.outputFrameStart).heads = s.heads ∧
    (s.outputFrameStart).monitor = s.monitor ∧
    (s.outputFrameStart).curves = s.curves ∧
    (s.outputFrameStart).live = s.live ∧
    (s.outputFrameStart).staged = s.staged ∧
    (s.outputFrameStart).dropped = s.dropped ∧
    (s.outputFrameStart).broken = s.broken ∧
    (s.outputFrameStart).baud = s.baud ∧
    (s.outputFrameStart).queue = s.queue ∧
    (s.outputFrameStart).inHand = s.inHand ∧
    (s.outputFrameStart).startCode = s.startCode ∧
    (s.outputFrameStart).startPhase = s.startPhase ∧
    (s.outputFrameStart).stored = s.stored ∧
    (s.outputFrameStart).save = s.save ∧
    (s.outputFrameStart).image = s.image ∧
    (s.outputFrameStart).abortedOp = s.abortedOp ∧
    (s.outputFrameStart).flashTimer = s.flashTimer ∧
    (s.outputFrameStart).flash = s.flash ∧
    (s.outputFrameStart).pending = s.pending :=
  by simp [State.outputFrameStart, forEach]

@[simp] theorem State.stopOutput_keeps (s : State) :
    (s.stopOutput).setup = s.setup ∧
    (s.stopOutput).measured = s.measured ∧
    (s.stopOutput).heads = s.heads ∧
    (s.stopOutput).monitor = s.monitor ∧
    (s.stopOutput).published = s.published ∧
    (s.stopOutput).curves = s.curves ∧
    (s.stopOutput).live = s.live ∧
    (s.stopOutput).staged = s.staged ∧
    (s.stopOutput).source = s.source ∧
    (s.stopOutput).buffers = s.buffers ∧
    (s.stopOutput).dropped = s.dropped ∧
    (s.stopOutput).repeated = s.repeated ∧
    (s.stopOutput).broken = s.broken ∧
    (s.stopOutput).baud = s.baud ∧
    (s.stopOutput).queue = s.queue ∧
    (s.stopOutput).inHand = s.inHand ∧
    (s.stopOutput).startCode = s.startCode ∧
    (s.stopOutput).startPhase = s.startPhase ∧
    (s.stopOutput).stored = s.stored ∧
    (s.stopOutput).save = s.save ∧
    (s.stopOutput).image = s.image ∧
    (s.stopOutput).abortedOp = s.abortedOp ∧
    (s.stopOutput).flashTimer = s.flashTimer ∧
    (s.stopOutput).flash = s.flash ∧
    (s.stopOutput).pending = s.pending :=
  by simp [State.stopOutput, forEach]

@[simp] theorem State.frameEvent_keeps (p : Pacing) (s : State) :
    (s.frameEvent p).setup = s.setup ∧
    (s.frameEvent p).measured = s.measured ∧
    (s.frameEvent p).heads = s.heads ∧
    (s.frameEvent p).monitor = s.monitor ∧
    (s.frameEvent p).curves = s.curves ∧
    (s.frameEvent p).live = s.live ∧
    (s.frameEvent p).staged = s.staged ∧
    (s.frameEvent p).dropped = s.dropped ∧
    (s.frameEvent p).broken = s.broken ∧
    (s.frameEvent p).baud = s.baud ∧
    (s.frameEvent p).queue = s.queue ∧
    (s.frameEvent p).inHand = s.inHand ∧
    (s.frameEvent p).startCode = s.startCode ∧
    (s.frameEvent p).startPhase = s.startPhase ∧
    (s.frameEvent p).stored = s.stored ∧
    (s.frameEvent p).save = s.save ∧
    (s.frameEvent p).image = s.image ∧
    (s.frameEvent p).abortedOp = s.abortedOp ∧
    (s.frameEvent p).flashTimer = s.flashTimer ∧
    (s.frameEvent p).flash = s.flash ∧
    (s.frameEvent p).pending = s.pending :=
  by unfold State.frameEvent; split <;> simp

@[simp] theorem State.startOutput_keeps (s : State) :
    (s.startOutput).setup = s.setup ∧
    (s.startOutput).measured = s.measured ∧
    (s.startOutput).heads = s.heads ∧
    (s.startOutput).monitor = s.monitor ∧
    (s.startOutput).curves = s.curves ∧
    (s.startOutput).live = s.live ∧
    (s.startOutput).staged = s.staged ∧
    (s.startOutput).dropped = s.dropped ∧
    (s.startOutput).broken = s.broken ∧
    (s.startOutput).baud = s.baud ∧
    (s.startOutput).queue = s.queue ∧
    (s.startOutput).inHand = s.inHand ∧
    (s.startOutput).startCode = s.startCode ∧
    (s.startOutput).startPhase = s.startPhase ∧
    (s.startOutput).stored = s.stored ∧
    (s.startOutput).save = s.save ∧
    (s.startOutput).image = s.image ∧
    (s.startOutput).abortedOp = s.abortedOp ∧
    (s.startOutput).flashTimer = s.flashTimer ∧
    (s.startOutput).flash = s.flash ∧
    (s.startOutput).pending = s.pending :=
  by unfold State.startOutput; split <;> [simp; (split <;> simp)]

@[simp] theorem State.ownEvent_keeps (s : State) :
    (s.ownEvent).setup = s.setup ∧
    (s.ownEvent).measured = s.measured ∧
    (s.ownEvent).heads = s.heads ∧
    (s.ownEvent).curves = s.curves ∧
    (s.ownEvent).live = s.live ∧
    (s.ownEvent).staged = s.staged ∧
    (s.ownEvent).dropped = s.dropped ∧
    (s.ownEvent).broken = s.broken ∧
    (s.ownEvent).baud = s.baud ∧
    (s.ownEvent).queue = s.queue ∧
    (s.ownEvent).inHand = s.inHand ∧
    (s.ownEvent).startCode = s.startCode ∧
    (s.ownEvent).startPhase = s.startPhase ∧
    (s.ownEvent).stored = s.stored ∧
    (s.ownEvent).save = s.save ∧
    (s.ownEvent).image = s.image ∧
    (s.ownEvent).abortedOp = s.abortedOp ∧
    (s.ownEvent).flash = s.flash ∧
    (s.ownEvent).pending = s.pending :=
  by unfold State.ownEvent; split <;> simp

@[simp] theorem State.autoStart_keeps (s : State) :
    (s.autoStart).setup = s.setup ∧
    (s.autoStart).measured = s.measured ∧
    (s.autoStart).heads = s.heads ∧
    (s.autoStart).monitor = s.monitor ∧
    (s.autoStart).curves = s.curves ∧
    (s.autoStart).live = s.live ∧
    (s.autoStart).staged = s.staged ∧
    (s.autoStart).dropped = s.dropped ∧
    (s.autoStart).broken = s.broken ∧
    (s.autoStart).baud = s.baud ∧
    (s.autoStart).queue = s.queue ∧
    (s.autoStart).inHand = s.inHand ∧
    (s.autoStart).startCode = s.startCode ∧
    (s.autoStart).startPhase = s.startPhase ∧
    (s.autoStart).stored = s.stored ∧
    (s.autoStart).save = s.save ∧
    (s.autoStart).image = s.image ∧
    (s.autoStart).abortedOp = s.abortedOp ∧
    (s.autoStart).flashTimer = s.flashTimer ∧
    (s.autoStart).flash = s.flash ∧
    (s.autoStart).pending = s.pending :=
  by unfold State.autoStart; split <;> simp

@[simp] theorem State.immediate_keeps (p : Port) (tag : Byte) (st : Status) (s : State) :
    (s.immediate p tag st).setup = s.setup ∧
    (s.immediate p tag st).timing = s.timing ∧
    (s.immediate p tag st).measured = s.measured ∧
    (s.immediate p tag st).heads = s.heads ∧
    (s.immediate p tag st).monitor = s.monitor ∧
    (s.immediate p tag st).mesh = s.mesh ∧
    (s.immediate p tag st).seams = s.seams ∧
    (s.immediate p tag st).published = s.published ∧
    (s.immediate p tag st).curves = s.curves ∧
    (s.immediate p tag st).live = s.live ∧
    (s.immediate p tag st).staged = s.staged ∧
    (s.immediate p tag st).views = s.views ∧
    (s.immediate p tag st).source = s.source ∧
    (s.immediate p tag st).buffers = s.buffers ∧
    (s.immediate p tag st).dropped = s.dropped ∧
    (s.immediate p tag st).repeated = s.repeated ∧
    (s.immediate p tag st).broken = s.broken ∧
    (s.immediate p tag st).baud = s.baud ∧
    (s.immediate p tag st).queue = s.queue ∧
    (s.immediate p tag st).inHand = s.inHand ∧
    (s.immediate p tag st).startCode = s.startCode ∧
    (s.immediate p tag st).startPhase = s.startPhase ∧
    (s.immediate p tag st).stored = s.stored ∧
    (s.immediate p tag st).save = s.save ∧
    (s.immediate p tag st).image = s.image ∧
    (s.immediate p tag st).abortedOp = s.abortedOp ∧
    (s.immediate p tag st).flashTimer = s.flashTimer ∧
    (s.immediate p tag st).flash = s.flash ∧
    (s.immediate p tag st).pending = s.pending :=
  by unfold State.immediate; split <;> simp

@[simp] theorem State.takeNext_keeps (s : State) :
    (s.takeNext).setup = s.setup ∧
    (s.takeNext).timing = s.timing ∧
    (s.takeNext).measured = s.measured ∧
    (s.takeNext).heads = s.heads ∧
    (s.takeNext).monitor = s.monitor ∧
    (s.takeNext).mesh = s.mesh ∧
    (s.takeNext).seams = s.seams ∧
    (s.takeNext).published = s.published ∧
    (s.takeNext).curves = s.curves ∧
    (s.takeNext).live = s.live ∧
    (s.takeNext).staged = s.staged ∧
    (s.takeNext).views = s.views ∧
    (s.takeNext).source = s.source ∧
    (s.takeNext).buffers = s.buffers ∧
    (s.takeNext).dropped = s.dropped ∧
    (s.takeNext).repeated = s.repeated ∧
    (s.takeNext).broken = s.broken ∧
    (s.takeNext).baud = s.baud ∧
    (s.takeNext).ports = s.ports ∧
    (s.takeNext).startCode = s.startCode ∧
    (s.takeNext).startPhase = s.startPhase ∧
    (s.takeNext).stored = s.stored ∧
    (s.takeNext).save = s.save ∧
    (s.takeNext).image = s.image ∧
    (s.takeNext).abortedOp = s.abortedOp ∧
    (s.takeNext).flashTimer = s.flashTimer ∧
    (s.takeNext).flash = s.flash ∧
    (s.takeNext).pending = s.pending :=
  by unfold State.takeNext; split <;> [simp; (split <;> simp)]

@[simp] theorem State.answered_keeps (p : Port) (r : Reply) (s : State) :
    (s.answered p r).setup = s.setup ∧
    (s.answered p r).timing = s.timing ∧
    (s.answered p r).measured = s.measured ∧
    (s.answered p r).heads = s.heads ∧
    (s.answered p r).monitor = s.monitor ∧
    (s.answered p r).mesh = s.mesh ∧
    (s.answered p r).seams = s.seams ∧
    (s.answered p r).published = s.published ∧
    (s.answered p r).curves = s.curves ∧
    (s.answered p r).live = s.live ∧
    (s.answered p r).staged = s.staged ∧
    (s.answered p r).views = s.views ∧
    (s.answered p r).source = s.source ∧
    (s.answered p r).buffers = s.buffers ∧
    (s.answered p r).dropped = s.dropped ∧
    (s.answered p r).repeated = s.repeated ∧
    (s.answered p r).broken = s.broken ∧
    (s.answered p r).baud = s.baud ∧
    (s.answered p r).startCode = s.startCode ∧
    (s.answered p r).startPhase = s.startPhase ∧
    (s.answered p r).stored = s.stored ∧
    (s.answered p r).save = s.save ∧
    (s.answered p r).image = s.image ∧
    (s.answered p r).abortedOp = s.abortedOp ∧
    (s.answered p r).flashTimer = s.flashTimer ∧
    (s.answered p r).flash = s.flash ∧
    (s.answered p r).pending = s.pending :=
  by simp [State.answered]

@[simp] theorem State.touch_keeps (h : Option Head) (p : Port) (s : State) :
    (s.touch h p).setup = s.setup ∧
    (s.touch h p).timing = s.timing ∧
    (s.touch h p).measured = s.measured ∧
    (s.touch h p).heads = s.heads ∧
    (s.touch h p).monitor = s.monitor ∧
    (s.touch h p).seams = s.seams ∧
    (s.touch h p).published = s.published ∧
    (s.touch h p).curves = s.curves ∧
    (s.touch h p).live = s.live ∧
    (s.touch h p).staged = s.staged ∧
    (s.touch h p).views = s.views ∧
    (s.touch h p).source = s.source ∧
    (s.touch h p).buffers = s.buffers ∧
    (s.touch h p).dropped = s.dropped ∧
    (s.touch h p).repeated = s.repeated ∧
    (s.touch h p).broken = s.broken ∧
    (s.touch h p).baud = s.baud ∧
    (s.touch h p).ports = s.ports ∧
    (s.touch h p).queue = s.queue ∧
    (s.touch h p).inHand = s.inHand ∧
    (s.touch h p).startCode = s.startCode ∧
    (s.touch h p).startPhase = s.startPhase ∧
    (s.touch h p).stored = s.stored ∧
    (s.touch h p).save = s.save ∧
    (s.touch h p).image = s.image ∧
    (s.touch h p).abortedOp = s.abortedOp ∧
    (s.touch h p).flashTimer = s.flashTimer ∧
    (s.touch h p).flash = s.flash ∧
    (s.touch h p).pending = s.pending :=
  by unfold State.touch; split <;> simp

@[simp] theorem State.writeHead_keeps (h : Head) (r : HeadRecord) (s : State) :
    (s.writeHead h r).setup = s.setup ∧
    (s.writeHead h r).timing = s.timing ∧
    (s.writeHead h r).measured = s.measured ∧
    (s.writeHead h r).mesh = s.mesh ∧
    (s.writeHead h r).published = s.published ∧
    (s.writeHead h r).curves = s.curves ∧
    (s.writeHead h r).live = s.live ∧
    (s.writeHead h r).staged = s.staged ∧
    (s.writeHead h r).views = s.views ∧
    (s.writeHead h r).source = s.source ∧
    (s.writeHead h r).buffers = s.buffers ∧
    (s.writeHead h r).dropped = s.dropped ∧
    (s.writeHead h r).repeated = s.repeated ∧
    (s.writeHead h r).broken = s.broken ∧
    (s.writeHead h r).baud = s.baud ∧
    (s.writeHead h r).queue = s.queue ∧
    (s.writeHead h r).inHand = s.inHand ∧
    (s.writeHead h r).startCode = s.startCode ∧
    (s.writeHead h r).startPhase = s.startPhase ∧
    (s.writeHead h r).stored = s.stored ∧
    (s.writeHead h r).save = s.save ∧
    (s.writeHead h r).image = s.image ∧
    (s.writeHead h r).abortedOp = s.abortedOp ∧
    (s.writeHead h r).flashTimer = s.flashTimer ∧
    (s.writeHead h r).flash = s.flash ∧
    (s.writeHead h r).pending = s.pending :=
  by unfold State.writeHead; split <;> simp

@[simp] theorem State.packetArrives_keeps (p : Port) (tag kind : Byte) (body : List Byte) (s : State) :
    (s.packetArrives p tag kind body).setup = s.setup ∧
    (s.packetArrives p tag kind body).timing = s.timing ∧
    (s.packetArrives p tag kind body).measured = s.measured ∧
    (s.packetArrives p tag kind body).heads = s.heads ∧
    (s.packetArrives p tag kind body).published = s.published ∧
    (s.packetArrives p tag kind body).curves = s.curves ∧
    (s.packetArrives p tag kind body).live = s.live ∧
    (s.packetArrives p tag kind body).staged = s.staged ∧
    (s.packetArrives p tag kind body).views = s.views ∧
    (s.packetArrives p tag kind body).source = s.source ∧
    (s.packetArrives p tag kind body).buffers = s.buffers ∧
    (s.packetArrives p tag kind body).dropped = s.dropped ∧
    (s.packetArrives p tag kind body).repeated = s.repeated ∧
    (s.packetArrives p tag kind body).broken = s.broken ∧
    (s.packetArrives p tag kind body).baud = s.baud ∧
    (s.packetArrives p tag kind body).startCode = s.startCode ∧
    (s.packetArrives p tag kind body).startPhase = s.startPhase ∧
    (s.packetArrives p tag kind body).stored = s.stored ∧
    (s.packetArrives p tag kind body).save = s.save ∧
    (s.packetArrives p tag kind body).image = s.image ∧
    (s.packetArrives p tag kind body).abortedOp = s.abortedOp ∧
    (s.packetArrives p tag kind body).flashTimer = s.flashTimer ∧
    (s.packetArrives p tag kind body).flash = s.flash ∧
    (s.packetArrives p tag kind body).pending = s.pending := by
  unfold State.packetArrives
  cases p <;> dsimp only <;> split <;> [simp; (split <;> [simp; (split <;> [simp; (split <;> simp)])]); simp; (split <;> [simp; (split <;> [simp; (split <;> simp)])])]

end Sys2Proof.Machine
end

