-- ==== Sys2Proof/Laws/Flash.lean ====
section
/-! SUPPORT. What an operation does to what is known of the flash, and what a read then returns. -/

namespace Sys2Proof.Machine

/-! ## Pages -/

@[simp] theorem erasePages_length (k i : Nat) (l : List FlashPage) : (erasePages k i l).length = l.length := by
  induction l generalizing i with
  | nil => rfl
  | cons x rest ih => simp [erasePages, ih]

theorem erasePages_get? (k i n : Nat) (l : List FlashPage) :
    (erasePages k i l)[n]? = (l[n]?).map fun x => if (i + n) / 16 = k then .erased else x := by
  induction l generalizing i n with
  | nil => simp [erasePages]
  | cons x rest ih =>
    cases n with
    | zero => simp [erasePages]
    | succ n => simp [erasePages, ih, Nat.add_assoc, Nat.add_comm 1 n]

/-- The erase of a sector leaves its pages erased and every other page as it was. -/
theorem Flash.page_eraseSector (f : Flash) (k n : Nat) (h : n < f.pages.length) :
    (f.eraseSector k).page n = if n / 16 = k then .erased else f.page n := by
  simp only [Flash.page, Flash.eraseSector, List.getD_eq_getElem?_getD, erasePages_get?, Nat.zero_add,
    List.getElem?_eq_getElem h, Option.map_some, Option.getD_some]

/-- A page written holds what was written, and every other page is as it was. -/
theorem Flash.page_setPage (f : Flash) (m n : Nat) (x : FlashPage) (h : m < f.pages.length) :
    (f.setPage m x).page n = if n = m then x else f.page n := by
  simp only [Flash.page, Flash.setPage, List.getD_eq_getElem?_getD, List.getElem?_set]
  by_cases e : m = n
  · subst e
    simp [h]
  · have e' : ¬ n = m := fun h => e h.symm
    simp [e, e']

/-- No operation changes the number of pages. -/
@[simp] theorem Flash.begin_length (f : Flash) (op : FlashOp) : (f.begin op).pages.length = f.pages.length := by
  cases op <;> simp [Flash.begin, Flash.eraseSector, Flash.setPage]

@[simp] theorem Flash.finish_length (f : Flash) (op : FlashOp) : (f.finish op).pages.length = f.pages.length := by
  cases op <;> simp [Flash.finish, Flash.setPage]

/-! ## Reads -/

@[simp] theorem Flash.answer_length (f : Flash) (failed : Bool) (i : Nat) (l : List Byte) :
    (f.answer failed i l).length = l.length := by
  induction l generalizing i with
  | nil => rfl
  | cons b rest ih => simp [Flash.answer, ih]

/-- A byte of a read, by what is known of its page. -/
theorem Flash.answer_get? (f : Flash) (failed : Bool) (i n : Nat) (l : List Byte) :
    (f.answer failed i l)[n]? = (l[n]?).map fun b => (f.page ((i + n) / 256)).byte failed ((i + n) % 256) b := by
  induction l generalizing i n with
  | nil => simp [Flash.answer]
  | cons b rest ih =>
    cases n with
    | zero => simp [Flash.answer]
    | succ n => simp [Flash.answer, ih, Nat.add_assoc, Nat.add_comm 1 n]

/-- What a read returns, said place by place, is what the model's read answers. -/
theorem Flash.returns_iff (f : Flash) (failed : Bool) (offset : Nat) (brought got : List Byte) :
    f.returns failed offset brought got ↔ got = f.answer failed offset brought := by
  have place : ∀ i b, ((f.page ((offset + i) / 256) = .unknown → got[i]? = some b) ∧
      (f.page ((offset + i) / 256) = .erased → got[i]? = some 0xFF) ∧
      ∀ l, f.page ((offset + i) / 256) = .programmed l →
        (∀ c, l[(offset + i) % 256]? = some c → got[i]? = some (if failed then b else c)) ∧
        (l.length ≤ (offset + i) % 256 → got[i]? = some 0xFF)) ↔
      got[i]? = some ((f.page ((offset + i) / 256)).byte failed ((offset + i) % 256) b) := by
    intro i b
    cases f.page ((offset + i) / 256) with
    | unknown => simp [FlashPage.byte]
    | erased => simp [FlashPage.byte]
    | programmed l =>
      simp only [FlashPage.byte, reduceCtorEq, false_implies, true_and, FlashPage.programmed.injEq, forall_eq']
      rcases Nat.lt_or_ge ((offset + i) % 256) l.length with hl | hl
      · simp [hl]
      · simp [hl]
  constructor
  · rintro ⟨hl, h⟩
    apply List.ext_getElem?
    intro i
    rw [Flash.answer_get?]
    cases hb : brought[i]? with
    | none =>
      have := List.getElem?_eq_none_iff.1 hb
      simp
      omega
    | some b => exact (place i b).1 (h i b hb)
  · rintro rfl
    refine ⟨Flash.answer_length .., fun i b hb => (place i b).2 ?_⟩
    rw [Flash.answer_get?, hb]
    rfl

/-- A read of a flash of which nothing is known returns what its event brings. -/
theorem Flash.answer_asFound (failed : Bool) (i : Nat) (l : List Byte) : Flash.asFound.answer failed i l = l := by
  have h : ∀ n, Flash.asFound.page n = .unknown := by
    intro n
    simp only [Flash.page, Flash.asFound, List.getD_eq_getElem?_getD, List.getElem?_replicate]
    split <;> rfl
  induction l generalizing i with
  | nil => rfl
  | cons b rest ih => simp [Flash.answer, h, FlashPage.byte, ih]

/-- An erased header holds no marker (R178): its first byte reads 0xFF. -/
theorem Flash.answer_erased (f : Flash) (failed : Bool) (b : Byte) (rest : List Byte) (h : f.page 0 = .erased) :
    (f.answer failed 0 (b :: rest)).take 4 ≠ imageMarker := by
  simp only [Flash.answer, Nat.zero_div, h, FlashPage.byte, List.take_succ_cons, imageMarker]
  intro e
  exact absurd (List.cons.inj e).1 (by decide)

/-- After a cold reset in ERASING or WRITING_BODY the header is erased (R185). -/
theorem State.flashCut_header (s : State) (k : Nat) (h : s.save = .erasing k ∨ s.save = .writingBody k)
    (hl : 0 < s.flash.pages.length) : s.flashCut.page 0 = .erased := by
  rcases h with h | h <;> simp [State.flashCut, h, Flash.page_eraseSector, hl]

end Sys2Proof.Machine
end

