-- ==== Sys2Proof/Laws/Requests.lean ====
section
/-! SUPPORT. What a request command does, said once: the request in hand is answered, any other comes in; and the
Executor's taking, the immediate reply and the arrival of a packet, case by case. -/

namespace Sys2Proof.Machine

/-! ## Kinds -/

@[simp] theorem Kind.ofCode?_code (k : Kind) : Kind.ofCode? k.code = some k := by cases k <;> decide

/-- A KIND byte that names a kind is that kind's code. -/
theorem Kind.code_of_ofCode? {b : Byte} {k : Kind} (h : Kind.ofCode? b = some k) : k.code = b := by
  have := List.find?_some h
  simpa using this

/-- A KIND byte names no kind exactly when it is no kind's code. -/
theorem Kind.ofCode?_eq_none {b : Byte} : Kind.ofCode? b = none ↔ ∀ k : Kind, k.code ≠ b := by
  simp only [Kind.ofCode?, List.find?_eq_none, beq_iff_eq]
  exact ⟨fun h k => h k (by cases k <;> decide), fun h k _ => h k⟩

/-- Codes name one kind each. -/
theorem Kind.code_inj {k l : Kind} (h : k.code = l.code) : k = l := by
  have := Kind.ofCode?_code k
  rw [h, Kind.ofCode?_code] at this
  exact (Option.some.inj this).symm

/-! ## A request in hand -/

/-- The request in hand, whose sender has authority, is answered by its rule; the owner's lapse timer restarts
where the rule was carried out. -/
theorem State.request_allowed {k : Kind} {f : Port → List Byte → State → Answer} {p : Port} {tag : Byte}
    {body : List Byte} {s : State} (h : s.hasInHand k p tag body) (ha : s.authorised k p body = true) :
    s.request k f p tag body = .next
      ((if (f p body s).status.carried then (f p body s).state.touch (kindHead? k body) p
        else (f p body s).state).answered p ⟨tag, (f p body s).status, (f p body s).body⟩) := by
  unfold State.hasInHand at h
  simp only [State.request, h, if_true, State.carryOut, State.answerTo, ha, State.finish]

/-- The request in hand, whose sender has no authority, is answered DENIED. -/
theorem State.request_denied {k : Kind} {f : Port → List Byte → State → Answer} {p : Port} {tag : Byte}
    {body : List Byte} {s : State} (h : s.hasInHand k p tag body) (ha : s.authorised k p body = false) :
    s.request k f p tag body = .next (s.answered p ⟨tag, .denied, []⟩) := by
  unfold State.hasInHand at h
  simp [State.request, h, State.carryOut, State.answerTo, ha, State.finish, refuse, Status.carried]

/-- The long operation in hand, whose sender has authority. -/
theorem State.requestLong_allowed {k : Kind} {f : List Arrival → Port → List Byte → State → LongAnswer} {p : Port}
    {tag : Byte} {body : List Byte} {during : List Arrival} {s : State} (h : s.hasInHand k p tag body)
    (ha : s.authorised k p body = true) :
    s.requestLong k f p tag body during = .next
      (((if (f during p body s).answer.status.carried then
          (f during p body s).answer.state.touch (kindHead? k body) p
        else (f during p body s).answer.state).answered p
          ⟨tag, (f during p body s).answer.status, (f during p body s).answer.body⟩).receiveAll
            (f during p body s).rest) := by
  unfold State.hasInHand at h
  simp only [State.requestLong, h, if_true, State.carryOutLong, ha, State.finish]

/-- The long operation in hand, whose sender has no authority. -/
theorem State.requestLong_denied {k : Kind} {f : List Arrival → Port → List Byte → State → LongAnswer} {p : Port}
    {tag : Byte} {body : List Byte} {during : List Arrival} {s : State} (h : s.hasInHand k p tag body)
    (ha : s.authorised k p body = false) :
    s.requestLong k f p tag body during = .next ((s.answered p ⟨tag, .denied, []⟩).receiveAll during) := by
  unfold State.hasInHand at h
  simp [State.requestLong, h, State.carryOutLong, ha, State.finish, refuse, longRefuse, Status.carried]

@[simp] theorem State.receiveAll_nil (s : State) : s.receiveAll [] = s := rfl

/-- Every request command answers a next state, made by carrying out a request in hand or by a packet that
comes in. -/
theorem State.request_cases (k : Kind) (f : Port → List Byte → State → Answer) (p : Port) (tag : Byte)
    (body : List Byte) (s : State) :
    (∃ u, (u = s ∨ u = s.comeIn p tag k body) ∧ u.hasInHand k p tag body ∧
      s.request k f p tag body = .next (u.carryOut k f ⟨p, tag, k.code, body⟩)) ∨
    s.request k f p tag body = .next (s.comeIn p tag k body) := by
  unfold State.request
  split
  · exact .inl ⟨s, .inl rfl, ‹_›, rfl⟩
  · split
    · exact .inl ⟨_, .inr rfl, (‹_ ∧ _› : _ ∧ _).2, rfl⟩
    · exact .inr rfl

/-- Every long operation's command answers a next state, in the same two ways. -/
theorem State.requestLong_cases (k : Kind) (f : List Arrival → Port → List Byte → State → LongAnswer) (p : Port)
    (tag : Byte) (body : List Byte) (during : List Arrival) (s : State) :
    (∃ u, (u = s ∨ u = s.comeIn p tag k body) ∧ u.hasInHand k p tag body ∧
      s.requestLong k f p tag body during = .next (u.carryOutLong k f during ⟨p, tag, k.code, body⟩)) ∨
    s.requestLong k f p tag body during = .next ((s.comeIn p tag k body).receiveAll during) := by
  unfold State.requestLong
  split
  · exact .inl ⟨s, .inl rfl, ‹_›, rfl⟩
  · split
    · exact .inl ⟨_, .inr rfl, (‹_ ∧ _› : _ ∧ _).2, rfl⟩
    · exact .inr rfl

/-- The command of a kind is a request of that kind under its own rule: one of the three long operations with
nothing arriving, or an ordinary request. -/
theorem command_is_request (k : Kind) (p : Port) (tag : Byte) (body : List Byte) :
    (∃ f, ∀ s, exec (k.command p tag body) s = s.request k f p tag body) ∨
    ∃ f, ∀ s, exec (k.command p tag body) s = s.requestLong k f p tag body [] := by
  cases k
  case meshGenerate => exact .inr ⟨_, fun _ => rfl⟩
  case meshShift => exact .inr ⟨_, fun _ => rfl⟩
  case meshCopy => exact .inr ⟨_, fun _ => rfl⟩
  all_goals exact .inl ⟨_, fun _ => rfl⟩

/-! ## The Executor's taking -/

/-- The Executor may take an entry exactly where its port has 240 bytes of free room. -/
theorem State.mayTake_iff (s : State) (e : Entry) : s.mayTake e = true ↔ 240 ≤ s.freeRoom e.port := by
  simp only [State.mayTake, decide_eq_true_eq]
  exact Iff.rfl

/-- What the Executor's look at the queue does: nothing while it is busy, nothing where no entry may be taken,
and otherwise the oldest such entry leaves the queue. -/
theorem State.takeNext_cases (s : State) :
    (s.takeNext = s ∧ (s.inHand ≠ none ∨ ∀ e ∈ s.queue, s.freeRoom e.port < 240)) ∨
    ∃ before e after, s.inHand = none ∧ s.queue = before ++ e :: after ∧
      (∀ x ∈ before, s.freeRoom x.port < 240) ∧ 240 ≤ s.freeRoom e.port ∧
      s.takeNext = { s with queue := before ++ after, inHand := some e } := by
  unfold State.takeNext
  cases hi : s.inHand with
  | some x => exact .inl ⟨rfl, .inl (by simp)⟩
  | none =>
    cases hf : s.queue.find? s.mayTake with
    | none =>
      refine .inl ⟨rfl, .inr fun e he => ?_⟩
      have := List.find?_eq_none.mp hf e he
      rw [State.mayTake_iff] at this
      omega
    | some e =>
      obtain ⟨he, before, after, hq, hb⟩ := List.find?_eq_some_iff_append.mp hf
      have hb' : ∀ x ∈ before, s.mayTake x = false := fun x hx => by simpa using hb x hx
      refine .inr ⟨before, e, after, rfl, hq, fun x hx => ?_, (s.mayTake_iff e).mp he, ?_⟩
      · have := hb x hx
        rw [Bool.not_eq_true', ← Bool.not_eq_true, State.mayTake_iff] at this
        omega
      · have : s.queue.eraseP s.mayTake = before ++ after := by
          rw [hq, List.eraseP_append_right _ (by simpa using hb'), List.eraseP_cons_of_pos he]
        simp only [this]

/-- An immediate reply enters with its TAG, or is dropped for want of room. -/
theorem State.immediate_cases (p : Port) (tag : Byte) (st : Status) (s : State) :
    (6 ≤ s.freeRoom p ∧ s.immediate p tag st = s.enter p ⟨tag, st, []⟩) ∨
    (s.freeRoom p < 6 ∧ s.immediate p tag st = s) := by
  by_cases h : 6 ≤ s.freeRoom p
  · exact .inl ⟨h, if_pos h⟩
  · exact .inr ⟨by omega, if_neg h⟩

/-- The four conditions of admission. -/
theorem State.admits_iff (s : State) (p : Port) (body : List Byte) :
    s.admits p body = true ↔ s.queue.length < 12 ∧ s.queueBytes + body.length ≤ 1536 ∧
      s.queue.countP (fun e => e.port == p) < 4 ∧ 6 ≤ s.freeRoom p := by
  simp only [State.admits, Bool.and_eq_true, decide_eq_true_eq, and_assoc]
  exact Iff.rfl

/-- What a packet that comes in leaves: the timers of its port restarted, and then an immediate reply, or its
entry at the end of the queue and the Executor's look at the queue. -/
theorem State.packetArrives_cases (p : Port) (tag kind : Byte) (body : List Byte) (s : State) :
    ∃ u, (u = s.restartClaims p ∨ ∃ k, p = .head k ∧ u = (s.restartClaims p).hear k) ∧
      ((∃ st, s.packetArrives p tag kind body = u.immediate p tag st) ∨
        (s.started = true ∧ u.admits p body = true ∧
          s.packetArrives p tag kind body =
            ({ u with queue := u.queue ++ [Entry.mk p tag kind body] }).takeNext)) := by
  have key : ∀ u : State, u.started = s.started →
      ((∃ st, (if u.started = false then u.immediate p tag .wait else
        match Kind.ofCode? kind with
        | none => u.immediate p tag .unknown
        | some k => if k.lengthOk body = false then u.immediate p tag .malformed
          else if u.admits p body then ({ u with queue := u.queue ++ [Entry.mk p tag kind body] }).takeNext
          else u.immediate p tag .wait) = u.immediate p tag st) ∨
      (s.started = true ∧ u.admits p body = true ∧ (if u.started = false then u.immediate p tag .wait else
        match Kind.ofCode? kind with
        | none => u.immediate p tag .unknown
        | some k => if k.lengthOk body = false then u.immediate p tag .malformed
          else if u.admits p body then ({ u with queue := u.queue ++ [Entry.mk p tag kind body] }).takeNext
          else u.immediate p tag .wait) =
            ({ u with queue := u.queue ++ [Entry.mk p tag kind body] }).takeNext)) := by
    intro u hu
    split
    · exact .inl ⟨_, rfl⟩
    · rename_i hs
      split
      · exact .inl ⟨_, rfl⟩
      · split
        · exact .inl ⟨_, rfl⟩
        · split
          · exact .inr ⟨by rw [← hu]; simpa using hs, ‹_›, rfl⟩
          · exact .inl ⟨_, rfl⟩
  unfold State.packetArrives
  cases p with
  | ap => exact ⟨_, .inl rfl, key _ (by simp [State.started])⟩
  | head k => exact ⟨_, .inr ⟨k, rfl, rfl⟩, key _ (by simp [State.started])⟩

/-- A byte on a line writes the port's assembler, and may then complete a packet: a bad check is answered at
once, a good one brings the packet in. -/
theorem State.receiveByte_cases (p : Port) (s : State) (b : Byte) :
    ∃ u, (u = s ∨ ∃ a, u = s.setAssembler p a) ∧
      (s.receiveByte p b = u ∨ (∃ tag st, s.receiveByte p b = u.immediate p tag st) ∨
        ∃ tag kind body, s.receiveByte p b = u.packetArrives p tag kind body) := by
  unfold State.receiveByte
  split
  · exact ⟨_, .inr ⟨_, rfl⟩, .inl rfl⟩
  · dsimp only
    split
    · exact ⟨_, .inr ⟨_, rfl⟩, .inl rfl⟩
    · split
      · exact ⟨_, .inr ⟨_, rfl⟩, .inl rfl⟩
      · split
        · refine ⟨s.setAssembler p .hunt, .inr ⟨_, rfl⟩, .inr ?_⟩
          unfold State.packetEnds
          dsimp only
          split
          · exact .inr ⟨_, _, _, rfl⟩
          · exact .inl ⟨_, _, rfl⟩
        · exact ⟨_, .inr ⟨_, rfl⟩, .inl rfl⟩

/-- A hunting port takes no packet but a new one: its assembler written as hunting is no change. -/
theorem State.setAssembler_hunt (p : Port) (s : State) (h : (s.ports.get p).assembler = .hunt) :
    s.setAssembler p .hunt = s := by
  have : { s.ports.get p with assembler := .hunt } = s.ports.get p := by rw [← h]
  simp only [State.setAssembler, this, PerPort.set_get]

/-- A request comes in as a packet of its own on a port that hunts, and not at all elsewhere. -/
theorem State.comeIn_cases (p : Port) (tag : Byte) (k : Kind) (body : List Byte) (s : State) :
    ((s.ports.get p).assembler.hunting = true ∧ body.length ≤ 240 ∧
      s.comeIn p tag k body = (s.setAssembler p .hunt).packetArrives p tag k.code body) ∨
    (¬ ((s.ports.get p).assembler.hunting = true ∧ body.length ≤ 240) ∧ s.comeIn p tag k body = s) := by
  unfold State.comeIn
  split
  · rename_i h
    exact .inl ⟨h.1, h.2, rfl⟩
  · exact .inr ⟨‹_›, rfl⟩

/-- What every port-line operation keeps: a law of the state that writing an assembler, an immediate reply and
the arrival of a packet each keep is kept by every run of bytes on the lines. -/
theorem State.receiveAll_keeps {P : State → Prop}
    (ha : ∀ p a s, P s → P (s.setAssembler p a))
    (hi : ∀ p tag st s, P s → P (s.immediate p tag st))
    (hp : ∀ p tag kind body s, P s → P (s.packetArrives p tag kind body))
    (l : List Arrival) (s : State) (h : P s) : P (s.receiveAll l) := by
  have hb : ∀ p b s, P s → P (State.receiveByte p s b) := by
    intro p b s h
    obtain ⟨u, hu, hr⟩ := State.receiveByte_cases p s b
    have hPu : P u := by
      rcases hu with rfl | ⟨a, rfl⟩
      · exact h
      · exact ha _ _ _ h
    rcases hr with e | ⟨_, _, e⟩ | ⟨_, _, _, e⟩ <;> rw [e]
    · exact hPu
    · exact hi _ _ _ _ hPu
    · exact hp _ _ _ _ _ hPu
  have hr : ∀ p (bytes : List Byte) s, P s → P (s.receive p bytes) := by
    intro p bytes
    induction bytes with
    | nil => exact fun _ h => h
    | cons b rest ih => exact fun s h => ih _ (hb p b s h)
  induction l generalizing s with
  | nil => exact h
  | cons a rest ih => exact ih _ (hr _ _ _ h)

/-- The same for the bytes of one port. -/
theorem State.receive_keeps {P : State → Prop}
    (ha : ∀ p a s, P s → P (s.setAssembler p a))
    (hi : ∀ p tag st s, P s → P (s.immediate p tag st))
    (hp : ∀ p tag kind body s, P s → P (s.packetArrives p tag kind body))
    (p : Port) (bytes : List Byte) (s : State) (h : P s) : P (s.receive p bytes) :=
  State.receiveAll_keeps ha hi hp [⟨0, p, bytes⟩] s h

/-- A law that writing an assembler, the arrival of a packet, a restart of lapse timers and an entered answer keep
is kept by a whole request where its rule keeps it. -/
theorem State.request_keeps {P : State → Prop}
    (ha : ∀ p a s, P s → P (s.setAssembler p a))
    (hp : ∀ p tag kind body s, P s → P (s.packetArrives p tag kind body))
    (ht : ∀ h p s, P s → P (State.touch h p s))
    (hr : ∀ p r s, P s → P (s.answered p r))
    {k : Kind} {f : Port → List Byte → State → Answer} {p : Port} {tag : Byte} {body : List Byte} {s t : State}
    (hf : ∀ s, P s → P (f p body s).state)
    (h : s.request k f p tag body = .next t) (hs : P s) : P t := by
  have hc : P (s.comeIn p tag k body) := by
    unfold State.comeIn
    split
    · exact hp _ _ _ _ _ (ha _ _ _ hs)
    · exact hs
  have key : ∀ u, P u → P (u.carryOut k f ⟨p, tag, k.code, body⟩) := by
    intro u hu
    have ha : P (u.answerTo k f ⟨p, tag, k.code, body⟩).state := by
      unfold State.answerTo
      split
      · exact hf _ hu
      · exact hu
    unfold State.carryOut State.finish
    refine hr _ _ _ ?_
    split
    · exact ht _ _ _ ha
    · exact ha
  rcases State.request_cases k f p tag body s with ⟨u, hu, -, e⟩ | e <;> rw [e] at h <;> cases h
  · refine key u ?_
    rcases hu with rfl | rfl
    · exact hs
    · exact hc
  · exact hc

/-- The same for a long operation, whose lines may also bring bytes in while it runs. -/
theorem State.requestLong_keeps {P : State → Prop}
    (ha : ∀ p a s, P s → P (s.setAssembler p a))
    (hi : ∀ p tag st s, P s → P (s.immediate p tag st))
    (hp : ∀ p tag kind body s, P s → P (s.packetArrives p tag kind body))
    (ht : ∀ h p s, P s → P (State.touch h p s))
    (hr : ∀ p r s, P s → P (s.answered p r))
    {k : Kind} {f : List Arrival → Port → List Byte → State → LongAnswer} {p : Port} {tag : Byte}
    {body : List Byte} {during : List Arrival} {s t : State}
    (hf : ∀ s, P s → P (f during p body s).answer.state)
    (h : s.requestLong k f p tag body during = .next t) (hs : P s) : P t := by
  have hc : P (s.comeIn p tag k body) := by
    unfold State.comeIn
    split
    · exact hp _ _ _ _ _ (ha _ _ _ hs)
    · exact hs
  have key : ∀ u, P u → P (u.carryOutLong k f during ⟨p, tag, k.code, body⟩) := by
    intro u hu
    have hl : ∀ r : LongAnswer, P r.answer.state →
        P ((State.finish k ⟨p, tag, k.code, body⟩ r.answer).receiveAll r.rest) := by
      intro r h
      unfold State.finish
      refine State.receiveAll_keeps ha hi hp _ _ (hr _ _ _ ?_)
      split
      · exact ht _ _ _ h
      · exact h
    refine hl (if u.authorised k p body then f during p body u else longRefuse (refuse u .denied) during) ?_
    split
    · exact hf _ hu
    · exact hu
  rcases State.requestLong_cases k f p tag body during s with ⟨u, hu, -, e⟩ | e <;> rw [e] at h <;> cases h
  · refine key u ?_
    rcases hu with rfl | rfl
    · exact hs
    · exact hc
  · exact State.receiveAll_keeps ha hi hp _ _ hc

/-- A chunk keeps what the lines keep. -/
theorem State.chunk_keeps {P : State → Prop}
    (ha : ∀ p a s, P s → P (s.setAssembler p a))
    (hi : ∀ p tag st s, P s → P (s.immediate p tag st))
    (hp : ∀ p tag kind body s, P s → P (s.packetArrives p tag kind body))
    (p : Port) (count : Nat) (during : List Arrival) (s : State) (h : P s) : P (s.chunk p count during).state := by
  have key : ∀ fuel n (l : List Arrival) s, P s → P (runChunk p count fuel n l s).state := by
    intro fuel
    induction fuel with
    | zero => exact fun _ _ _ h => h
    | succ fuel ih =>
      intro n l s h
      have h' := State.receiveAll_keeps ha hi hp (l.takeWhile fun a => decide (a.after ≤ min (n + Config.chunkStep) count)) s h
      unfold runChunk
      dsimp only
      split
      · exact h'
      · split
        · exact h'
        · exact ih _ _ _ h'
  exact key _ _ _ _ h

end Sys2Proof.Machine
end

