-- ==== Sys2Proof/Laws/Ops.lean ====
section
/-! SUPPORT. What each shared operation does to the parts it touches, said once: notices, landings, fades and
retargets, contributions, the hold, the buffers, the claims. -/

namespace Sys2Proof.Machine

/-! ## Notices -/

/-- A notice raised is its kind added to every set. -/
theorem State.raise_eq (n : Notice) (s : State) : s.raise n = s.withNotices (BitVec.ofNat 19 (2 ^ n.number)) := by
  have h : n.bit = BitVec.ofNat 19 (2 ^ n.number) := by
    cases n <;> (try rename_i x; cases x) <;> rfl
  simp only [State.raise, State.withNotices, PortState.raise, h]

/-- A kind stands in a set after its notice is raised. -/
theorem State.raise_stands (n : Notice) (s : State) (p : Port) :
    ((s.raise n).ports.get p).notices.getLsbD n.number = true := by
  have h : n.bit.getLsbD n.number = true := by
    cases n <;> (try rename_i x; cases x) <;> rfl
  simp [PortState.raise, h]

/-- A kind that stands stays where another notice is raised. -/
theorem State.raise_keeps_kind (n : Notice) (s : State) (p : Port) (k : Nat)
    (h : (s.ports.get p).notices.getLsbD k = true) : ((s.raise n).ports.get p).notices.getLsbD k = true := by
  simp [PortState.raise, h]

/-! ## Landings and commits -/

/-- A landing acts on its own head, where a commit is pending. -/
theorem State.land_get (h k : Head) (s : State) :
    (s.land h).mesh.get k = if k = h ∧ (s.mesh.get k).commitPending = true then
      { s.mesh.get k with active := (s.mesh.get k).staged, claim := none, commitPending := false }
    else s.mesh.get k := by
  by_cases hk : k = h
  · subst hk
    by_cases hc : (s.mesh.get k).commitPending = true <;> simp [State.land, hc]
  · unfold State.land
    dsimp only
    split <;> simp [hk]

/-- Every pending commit lands unless a save is in flight. -/
theorem State.landAll_get (k : Head) (s : State) :
    s.landAll.mesh.get k = if (s.mesh.get k).commitPending = true ∧ s.saving = false then
      { s.mesh.get k with active := (s.mesh.get k).staged, claim := none, commitPending := false }
    else s.mesh.get k := by
  unfold State.landAll
  cases hs : s.saving
  · simp only [forEach, Bool.false_eq_true, if_false]
    cases k <;> simp [State.land_get]
  · simp

/-- A commit stays pending while RUNNING or while a save is in flight, and lands at once otherwise. -/
theorem State.commit_get (h k : Head) (s : State) :
    (s.commit h).mesh.get k = if k = h then
      (if s.running = true ∨ s.saving = true then { s.mesh.get h with commitPending := true }
        else { s.mesh.get h with active := (s.mesh.get h).staged, claim := none, commitPending := false })
    else s.mesh.get k := by
  unfold State.commit
  dsimp only
  by_cases hc : s.running = true ∨ s.saving = true
  · have hb : (s.running || s.saving) = true := by simpa using hc
    simp only [hb, hc, if_true]
    simp [Quad.get_set]
  · have hb : (s.running || s.saving) = false := by simpa using hc
    simp only [hb, hc, if_false, Bool.false_eq_true, State.land_get]
    by_cases hk : k = h
    · subst hk
      simp
    · simp [hk]

/-! ## Fades and targets -/

/-- A seam put back stands in its slot, and no other slot changes. -/
theorem State.putSeam_get (sl k : Slot) (r : Seam × Bool) (s : State) :
    (s.putSeam sl r).seams.get k = if k = sl then some r.1 else s.seams.get k := by
  unfold State.putSeam
  dsimp only
  split <;> simp [Quad.get_set]

/-- One frame start for the fade of one slot. -/
theorem State.advanceFade_get (sl k : Slot) (s : State) :
    (s.advanceFade sl).seams.get k =
      if k = sl then (s.seams.get k).map fun q => q.advance.1 else s.seams.get k := by
  unfold State.advanceFade
  by_cases hk : k = sl
  · subst hk
    cases h : s.seams.get k <;> simp [State.putSeam_get, h]
  · cases h : s.seams.get sl <;> simp [State.putSeam_get, hk]

/-- One frame start for every fade. -/
theorem State.advanceFades_get (k : Slot) (s : State) :
    (forEach State.advanceFade s).seams.get k = (s.seams.get k).map fun q => q.advance.1 := by
  unfold forEach
  cases k <;> simp [State.advanceFade_get]

/-- The end of the fade of one slot. -/
theorem State.endFade_get (sl k : Slot) (s : State) :
    (s.endFade sl).seams.get k = if k = sl then (s.seams.get k).map fun q => q.endFade.1 else s.seams.get k := by
  unfold State.endFade
  by_cases hk : k = sl
  · subst hk
    cases h : s.seams.get k <;> simp [State.putSeam_get, h]
  · cases h : s.seams.get sl <;> simp [State.putSeam_get, hk]

/-- The end of every fade. -/
theorem State.endFades_get (k : Slot) (s : State) :
    (forEach State.endFade s).seams.get k = (s.seams.get k).map fun q => q.endFade.1 := by
  unfold forEach
  cases k <;> simp [State.endFade_get]

/-- What a re-derivation of a target leaves of a seam, from the contributions that stand. -/
def State.retargeted (s : State) (q : Seam) : Seam :=
  (q.retarget s.running (q.pin.target (s.contributes q.geo.falling) (s.contributes q.geo.rising) q.target)).1

/-- The re-derivation of one slot. -/
theorem State.retargetSlot_get (sl k : Slot) (s : State) :
    (s.retargetSlot sl).seams.get k = if k = sl then (s.seams.get k).map s.retargeted else s.seams.get k := by
  unfold State.retargetSlot
  by_cases hk : k = sl
  · subst hk
    cases h : s.seams.get k <;> simp [State.putSeam_get, h, State.retargeted]
  · cases h : s.seams.get sl <;> simp [State.putSeam_get, hk]

/-- The re-derivation of every seam that names a head, and of no other. -/
theorem State.retargetHead_get (h : Head) (k : Slot) (s : State) :
    (s.retargetHead h).seams.get k = (s.seams.get k).map fun q => if q.geo.names h then s.retargeted q else q := by
  have step : ∀ (i k : Slot) (u : State), u.timing = s.timing → u.monitor = s.monitor →
      (u.retargetNamed h i).seams.get k = if k = i then
        (u.seams.get k).map (fun q => if q.geo.names h then s.retargeted q else q) else u.seams.get k := by
    intro i k u ht hm
    have hr : u.retargeted = s.retargeted := by
      funext q
      simp only [State.retargeted, State.running, State.contributes, ht, hm]
    unfold State.retargetNamed
    cases hq : u.seams.get i with
    | none => by_cases hk : k = i <;> simp [hk, hq]
    | some q =>
      cases hn : q.geo.names h
      · by_cases hk : k = i <;> simp [hk, hq, hn]
      · by_cases hk : k = i <;> simp [State.retargetSlot_get, hr, hk, hq, hn]
  unfold State.retargetHead forEach
  rw [step _ _ _ (by simp) (by simp), step _ _ _ (by simp) (by simp), step _ _ _ (by simp) (by simp),
    step _ _ _ rfl rfl]
  cases k <;> simp

/-! ## Contributions -/

/-- A re-derivation writes the contribution of its head as the four inputs give it. -/
theorem State.rederive_monitor (h : Head) (s : State) :
    (s.rederive h).monitor = s.monitor.set h { s.monitor.get h with
      contributes := contribution (s.heads.get h).enabled (s.monitor.get h) } := by
  unfold State.rederive
  dsimp only
  split
  · rename_i e
    rw [e]
    exact (Quad.set_get _ _).symm
  · simp

/-- The contribution is the conjunction of its four inputs. -/
theorem contribution_iff (enabled : Bool) (m : Monitor) :
    contribution enabled m = true ↔ enabled = true ∧ m.sink = true ∧ m.light = .on ∧
      (m.presence = .notWatched ∨ ∃ t, m.presence = .present t) := by
  unfold contribution
  cases m.presence <;> simp [and_assoc, and_comm]

/-! ## Source Input and Frame Buffers -/

/-- The hold at an output frame start. -/
theorem State.advanceHold_source (s : State) :
    s.advanceHold.source = if s.source.state = .holding then
      { s.source with
        holdCount := s.source.holdCount + 1
        state := if s.source.holdTime < s.source.holdCount + 1 then .black else .holding }
    else s.source := by
  unfold State.advanceHold
  by_cases h : s.source.state = .holding
  · simp only [h, if_true, State.setInput]
    split <;> simp
  · simp [h]

/-- The input state after a write of it. -/
theorem State.setInput_source (x : InputState) (s : State) : (s.setInput x).source = { s.source with state := x } := by
  unfold State.setInput
  split
  · rename_i e
    rw [← e]
  · simp

/-- The buffer choice acts on the buffers alone, or counts a repeated frame. -/
theorem State.chooseBuffer_cases (s : State) :
    (s.source.state.dark = true ∧ s.chooseBuffer = { s with buffers := s.buffers.map Buffer.clear }) ∨
    (s.source.state.dark = false ∧ s.buffers.any Buffer.isReady = true ∧
      s.chooseBuffer = { s with buffers := s.buffers.map Buffer.promote }) ∨
    (s.source.state = .locked ∧ s.buffers.any Buffer.isReady = false ∧
      s.chooseBuffer = { s with repeated := bump s.repeated }) ∨
    (s.source.state.dark = false ∧ s.source.state ≠ .locked ∧ s.buffers.any Buffer.isReady = false ∧
      s.chooseBuffer = s) := by
  unfold State.chooseBuffer
  cases hd : s.source.state.dark
  · cases hr : s.buffers.any Buffer.isReady
    · by_cases hl : s.source.state = .locked <;> simp [hl]
    · simp
  · simp

/-- A frame that is cut leaves no FILLING buffer. -/
theorem State.cutFrame_eq (s : State) :
    s.cutFrame = { s with
      buffers := s.buffers.map Buffer.cut
      broken := if s.buffers.any Buffer.isFilling then bump s.broken else s.broken } := by
  unfold State.cutFrame
  split
  · rfl
  · rename_i h
    have hc : ∀ b : Buffer, b.isFilling = false → b.cut = b := by
      intro b hb
      cases b <;> first | rfl | cases hb
    simp only [Buffers.any, Bool.or_eq_true, not_or, Bool.not_eq_true] at h
    have e : s.buffers.map Buffer.cut = s.buffers := by
      simp only [Buffers.map, hc _ h.1.1, hc _ h.1.2, hc _ h.2]
    rw [e]

/-- A counter never passes 65,535. -/
theorem bump_le (n : Nat) : bump n ≤ 65535 := by
  unfold bump
  split <;> omega

/-! ## Claims and the clamps -/

/-- A restart of lapse timers changes no claim's owner, nor anything else of a mesh state. -/
theorem HeadMesh.restartTimer_keeps (p : Port) (m : HeadMesh) :
    (m.restartTimer p).active = m.active ∧ (m.restartTimer p).staged = m.staged ∧
      (m.restartTimer p).claim.map Claim.owner = m.claim.map Claim.owner ∧
      (m.restartTimer p).commitPending = m.commitPending ∧ (m.restartTimer p).lapse = m.lapse := by
  unfold HeadMesh.restartTimer
  split
  · split
    · rename_i h1 h2
      simp [h1, h2.1]
    · simp
  · simp

/-- A node in range, by its coordinates. -/
theorem Node.ok_iff (n : Node) :
    n.ok = true ↔ -16384 ≤ n.u ∧ n.u ≤ 81919 ∧ -16384 ≤ n.v ∧ n.v ≤ 53247 := by
  rw [Node.ok, decide_eq_true_eq]

/-- A clamped node is in range, and one in range is not moved. -/
theorem Node.clamp_ok (n : Node) : n.clamp.ok = true := by
  rw [Node.ok_iff]
  simp only [Node.clamp, clampU, clampV]
  omega

theorem Node.clamp_of_ok (n : Node) (h : n.ok = true) : n.clamp = n := by
  rw [Node.ok_iff] at h
  obtain ⟨u, v, x⟩ := n
  simp only at h
  simp only [Node.clamp, clampU, clampV, Node.mk.injEq, and_true]
  omega

/-- The flat mesh has a node for each node of the grid, each in range. -/
theorem flatMesh_length (o : OutputSetup) (t : Tile) : (flatMesh o t).length = o.nodes := by
  simp [flatMesh]

theorem flatMesh_ok (o : OutputSetup) (t : Tile) : ∀ n ∈ flatMesh o t, n.ok = true := by
  intro n hn
  obtain ⟨k, -, rfl⟩ := List.mem_map.mp hn
  rw [Node.ok_iff]
  simp only [flatNode, clampU, clampV]
  omega

end Sys2Proof.Machine
end

