-- ==== Sys2Proof/Laws/Notices.lean ====
section
/-! SUPPORT. Which notices each shared operation adds: one lemma per operation, composed by `State.noticed_trans`. -/

namespace Sys2Proof.Machine

/-! ## Adding notices -/

/-- Ports that are the same have no notice added. -/
theorem State.noticed_of_eq {s t : State} (h : t.ports = s.ports) : s.noticed t fun _ => False := by
  intro p
  rw [h]
  exact ⟨rfl, fun k _ => by simp⟩

/-- What two operations add in turn. -/
theorem State.noticed_trans {s t u : State} {A B : Nat → Prop} (h : s.noticed t A) (h' : t.noticed u B) :
    s.noticed u fun k => A k ∨ B k := by
  intro p
  refine ⟨?_, fun k hk => ?_⟩
  · rw [(h' p).1, (h p).1]
  · rw [(h' p).2 k hk, (h p).2 k hk, or_assoc]

/-- The kinds added, said in another way. -/
theorem State.noticed_congr {s t : State} {A B : Nat → Prop} (h : s.noticed t A) (e : ∀ k, k < 19 → (A k ↔ B k)) :
    s.noticed t B := fun p => ⟨(h p).1, fun k hk => by rw [(h p).2 k hk, e k hk]⟩

/-- A notice raised adds its kind. -/
theorem State.raise_noticed (n : Notice) (s : State) : s.noticed (s.raise n) fun k => k = n.number := by
  intro p
  simp only [State.raise_ports, PerPort.get_map, PortState.raise]
  refine ⟨trivial, fun k hk => ?_⟩
  have hb : n.bit.getLsbD k = decide (k = n.number) := by
    simp only [Notice.bit, BitVec.getLsbD_shiftLeft, BitVec.getLsbD_one, hk, decide_true, Bool.true_and]
    by_cases h : k < n.number
    · simp [h, Nat.ne_of_lt h]
    · have : (k - n.number = 0) ↔ k = n.number := by omega
      simp [h, this]
  simp [hb]

/-! ## Landings -/

theorem State.land_noticed (h : Head) (s : State) :
    s.noticed (s.land h) fun k => (s.mesh.get h).commitPending = true ∧ k = h.toNat := by
  unfold State.land
  dsimp only
  split
  · rename_i e
    exact State.noticed_congr (State.raise_noticed (.meshLanded h) _) fun k _ => by simp [Notice.number, e]
  · rename_i e
    exact State.noticed_congr (State.noticed_of_eq rfl) fun k _ => by simp [e]

/-- Landings raise MESH_LANDED of the heads whose commit was pending. -/
theorem State.landAll_noticed (s : State) : s.noticed s.landAll fun k =>
    ∃ h, ((s.mesh.get h).commitPending = true ∧ s.saving = false) ∧ k = h.toNat := by
  unfold State.landAll
  cases hs : s.saving
  · simp only [Bool.false_eq_true, if_false, forEach]
    have a := State.land_noticed .i0 s
    have b := State.noticed_trans a (State.land_noticed .i1 _)
    have c := State.noticed_trans b (State.land_noticed .i2 _)
    have d := State.noticed_trans c (State.land_noticed .i3 _)
    refine State.noticed_congr d fun k _ => ?_
    simp only [State.land_get]
    constructor
    · rintro (((h | h) | h) | h)
      · exact ⟨_, ⟨h.1, trivial⟩, h.2⟩
      · exact ⟨.i1, ⟨by simpa using h.1, trivial⟩, h.2⟩
      · exact ⟨.i2, ⟨by simpa using h.1, trivial⟩, h.2⟩
      · exact ⟨.i3, ⟨by simpa using h.1, trivial⟩, h.2⟩
    · rintro ⟨h, ⟨h1, -⟩, h2⟩
      cases h
      · exact .inl (.inl (.inl ⟨h1, h2⟩))
      · exact .inl (.inl (.inr ⟨by simpa using h1, h2⟩))
      · exact .inl (.inr ⟨by simpa using h1, h2⟩)
      · exact .inr ⟨by simpa using h1, h2⟩
  · exact State.noticed_congr (State.noticed_of_eq rfl) fun k _ => by simp

/-! ## Seams -/

theorem State.putSeam_noticed (sl : Slot) (r : Seam × Bool) (s : State) :
    s.noticed (s.putSeam sl r) fun k => r.2 = true ∧ k = 12 + sl.toNat := by
  unfold State.putSeam
  dsimp only
  split
  · rename_i e
    exact State.noticed_congr (State.raise_noticed (.seamSettled sl) _) fun k _ => by simp [Notice.number, e]
  · rename_i e
    exact State.noticed_congr (State.noticed_of_eq rfl) fun k _ => by simp [e]

/-- A pass over the four slots in turn raises SEAM_SETTLED of the slots whose seam it settles: `f` is what the pass
does to a slot, and `moved` what it makes of the seam there, with the flag that it settled. -/
theorem State.slots_noticed (f : Slot → State → State) (moved : Seam → Seam × Bool) (g : State → Prop) (s : State)
    (hg : g s) (hk : ∀ sl u, g u → g (f sl u))
    (hf : ∀ sl u, g u → f sl u = match u.seams.get sl with
      | none => u
      | some q => u.putSeam sl (moved q)) :
    s.noticed (forEach f s) fun k => ∃ sl q, s.seams.get sl = some q ∧ (moved q).2 = true ∧ k = 12 + sl.toNat := by
  have one : ∀ sl u, g u → u.noticed (f sl u) fun k =>
      ∃ q, u.seams.get sl = some q ∧ (moved q).2 = true ∧ k = 12 + sl.toNat := by
    intro sl u hu
    rw [hf sl u hu]
    cases h : u.seams.get sl with
    | none => exact State.noticed_congr (State.noticed_of_eq rfl) fun k _ => by simp
    | some q => exact State.noticed_congr (State.putSeam_noticed sl (moved q) u) fun k _ => by simp
  have get : ∀ sl u i, g u → i ≠ sl → (f sl u).seams.get i = u.seams.get i := by
    intro sl u i hu hi
    rw [hf sl u hu]
    cases h : u.seams.get sl with
    | none => rfl
    | some q => simp [State.putSeam_get, hi]
  have g1 := hk .i0 s hg
  have g2 := hk .i1 _ g1
  have g3 := hk .i2 _ g2
  have d := State.noticed_trans (State.noticed_trans (State.noticed_trans (one .i0 s hg) (one .i1 _ g1)) (one .i2 _ g2))
    (one .i3 _ g3)
  have e1 : (f .i0 s).seams.get .i1 = s.seams.get .i1 := get _ _ _ hg (by decide)
  have e2 : (f .i1 (f .i0 s)).seams.get .i2 = s.seams.get .i2 := by
    rw [get _ _ _ g1 (by decide), get _ _ _ hg (by decide)]
  have e3 : (f .i2 (f .i1 (f .i0 s))).seams.get .i3 = s.seams.get .i3 := by
    rw [get _ _ _ g2 (by decide), get _ _ _ g1 (by decide), get _ _ _ hg (by decide)]
  refine State.noticed_congr d fun k _ => ?_
  rw [e1, e2, e3]
  constructor
  · rintro (((h | h) | h) | h)
    · exact ⟨.i0, h⟩
    · exact ⟨.i1, h⟩
    · exact ⟨.i2, h⟩
    · exact ⟨.i3, h⟩
  · rintro ⟨sl, h⟩
    cases sl
    · exact .inl (.inl (.inl h))
    · exact .inl (.inl (.inr h))
    · exact .inl (.inr h)
    · exact .inr h

/-- A frame start raises SEAM_SETTLED of the slots whose fade reaches its length. -/
theorem State.advanceFades_noticed (s : State) : s.noticed (forEach State.advanceFade s) fun k =>
    ∃ sl q, s.seams.get sl = some q ∧ q.advance.2 = true ∧ k = 12 + sl.toNat :=
  State.slots_noticed State.advanceFade Seam.advance (fun _ => True) s trivial (fun _ _ _ => trivial) fun _ _ _ => rfl

/-- The stop raises SEAM_SETTLED of the slots that were fading. -/
theorem State.endFades_noticed (s : State) : s.noticed (forEach State.endFade s) fun k =>
    ∃ sl q, s.seams.get sl = some q ∧ q.endFade.2 = true ∧ k = 12 + sl.toNat :=
  State.slots_noticed State.endFade Seam.endFade (fun _ => True) s trivial (fun _ _ _ => trivial) fun _ _ _ => rfl

/-- A retarget of the seams that name a head raises SEAM_SETTLED of those it settles. -/
theorem State.retargetHead_noticed (h : Head) (s : State) : s.noticed (s.retargetHead h) fun k =>
    ∃ sl q, s.seams.get sl = some q ∧ (q.geo.names h = true ∧ (q.retarget s.running
      (q.pin.target (s.contributes q.geo.falling) (s.contributes q.geo.rising) q.target)).2 = true) ∧
      k = 12 + sl.toNat := by
  have a := State.slots_noticed (State.retargetNamed h)
    (fun q => if q.geo.names h = true then q.retarget s.running
      (q.pin.target (s.contributes q.geo.falling) (s.contributes q.geo.rising) q.target) else (q, false))
    (fun u => u.timing = s.timing ∧ u.monitor = s.monitor) s ⟨rfl, rfl⟩
    (fun sl u hu => by simpa using hu) ?_
  · refine State.noticed_congr a fun k _ => ?_
    constructor <;> rintro ⟨sl, q, hq, hn, hk⟩ <;> refine ⟨sl, q, hq, ?_, hk⟩
    · by_cases hg : q.geo.names h = true
      · simpa [hg] using hn
      · simp [hg] at hn
    · simpa [hn.1] using hn.2
  · intro sl u hu
    unfold State.retargetNamed
    cases hq : u.seams.get sl with
    | none => rfl
    | some q =>
      by_cases hg : q.geo.names h = true
      · simp only [hg, if_true, State.retargetSlot, hq, State.running, State.contributes, hu.1, hu.2]
      · have : u.seams.set sl (some q) = u.seams := by rw [← hq]; exact Quad.set_get _ _
        simp [hg, State.putSeam, this]

/-! ## The hold -/

/-- The hold raises SOURCE_CHANGED where it turns the input state to BLACK. -/
theorem State.advanceHold_noticed (s : State) : s.noticed s.advanceHold fun k =>
    (s.source.state = .holding ∧ s.source.holdTime < s.source.holdCount + 1) ∧ k = 16 := by
  unfold State.advanceHold
  by_cases h : s.source.state = .holding
  · by_cases hb : s.source.holdTime < s.source.holdCount + 1
    · simp only [h, hb, if_true, State.setInput]
      exact State.noticed_congr (State.raise_noticed .sourceChanged _) fun k _ => by simp [Notice.number]
    · simp only [h, hb, if_true, if_false]
      exact State.noticed_congr (State.noticed_of_eq rfl) fun k _ => by simp
  · simp only [h, if_false]
    exact State.noticed_congr (State.noticed_of_eq rfl) fun k _ => by simp

end Sys2Proof.Machine
end

