-- ==== Sys2Proof/WellFormed.lean ====
section
/-! DEFINITION. Which commands are well formed: the operands an event of the part can bring. -/

namespace Sys2Proof

/-- A packet's body is at most 240 bytes (R161). -/
def bodyOk (body : List Byte) : Bool := decide (body.length ≤ 240)

/-- Arrivals stand in the order in which they come (R45). -/
def arrivalsOk : List Arrival → Bool
  | a :: b :: rest => decide (a.after ≤ b.after) && arrivalsOk (b :: rest)
  | _ => true

/-- A source code has at most 12 bits per channel (R137). -/
def pixelOk (c : Rgb) : Bool := decide (c.r < 4096 ∧ c.g < 4096 ∧ c.b < 4096)

/-- A LEN byte that discards the packet is above 240 (R161). -/
def oversizeOk (len : Byte) : Bool := decide (240 < len.toNat)

/-- The header read returns the 256 bytes of the header (R178). -/
def headerOk (bytes : List Byte) : Bool := decide (bytes.length = 256)

/-- An answer of the flash, and bytes on a line, are at least one byte. -/
def someBytes (bytes : List Byte) : Bool := !bytes.isEmpty

/-- The well-formedness of a command's operands. -/
def Instr.wf : Instr → Bool
  | .flashIdentifyAnswered ident => someBytes ident
  | .headerReadAnswered read => headerOk read.bytes
  | .bodyReadAnswered read => someBytes read.bytes
  | .saveVerifyRead read => someBytes read.bytes
  | .sourceFrameEnd lines => lines.all fun l => l.all pixelOk
  | .packetReceived _ bytes => someBytes bytes
  | .lenOversize _ len => oversizeOk len
  | .coldReset _ | .startupFlashTimeout | .framePeriodExpiry | .followTimeout | .fadeSettle _
  | .holdTimeExpiry | .sourceFrameStart _ _ _ | .sourceLoss | .detectLineChange _ _
  | .sinkDebounceExpiry _ | .presenceExpiry _ | .claimLapse _ | .receiveGapTimeout _
  | .brokenByte _ | .replySent _ | .saveEraseDone | .savePageProgrammed | .saveHeaderProgrammed
  | .saveFlashTimeout | .abortedFlashOperationEnd => true
  | .meshGenerate _ _ body during | .meshShift _ _ body during | .meshCopy _ _ body during =>
    bodyOk body && arrivalsOk during
  | .status _ _ body | .noticeRead _ _ body | .noticeMask _ _ body | .restart _ _ body
  | .outputSetup _ _ body | .outputStart _ _ body | .outputStop _ _ body | .headSetup _ _ body
  | .headQuery _ _ body | .headMode _ _ body | .meshWrite _ _ body | .meshRead _ _ body
  | .meshCommit _ _ body | .meshDiscard _ _ body | .meshHold _ _ body | .meshQuery _ _ body
  | .seamDefine _ _ body | .seamDelete _ _ body | .seamQuery _ _ body | .seamPin _ _ body
  | .seamFades _ _ body | .curveWrite _ _ body | .curveRead _ _ body | .headState _ _ body
  | .presenceSetup _ _ body | .tableWrite _ _ body | .tableRead _ _ body | .tableCommit _ _ body
  | .liftSet _ _ body | .sourceQuery _ _ body | .holdSetup _ _ body | .layoutRead _ _ body
  | .layoutApply _ _ body | .save _ _ body => bodyOk body

end Sys2Proof
end

