-- ==== Sys2Proof/Laws/PerInstr.lean ====
section
/-! SUPPORT. A law of the commands as syntax, command by command: what a well-formed request carries fits in one
packet. -/

namespace Sys2Proof

/-- The port, the TAG and the body of a command that is a request; none for an event. -/
def Instr.packet? : Instr → Option (Port × Byte × List Byte)
  | .coldReset _ => none
  | .flashIdentifyAnswered _ => none
  | .headerReadAnswered _ => none
  | .bodyReadAnswered _ => none
  | .startupFlashTimeout => none
  | .framePeriodExpiry => none
  | .followTimeout => none
  | .fadeSettle _ => none
  | .holdTimeExpiry => none
  | .sourceFrameStart _ _ _ => none
  | .sourceFrameEnd _ => none
  | .sourceLoss => none
  | .detectLineChange _ _ => none
  | .sinkDebounceExpiry _ => none
  | .presenceExpiry _ => none
  | .claimLapse _ => none
  | .packetReceived _ _ => none
  | .receiveGapTimeout _ => none
  | .brokenByte _ => none
  | .lenOversize _ _ => none
  | .replySent _ => none
  | .status p tag body => some (p, tag, body)
  | .noticeRead p tag body => some (p, tag, body)
  | .noticeMask p tag body => some (p, tag, body)
  | .restart p tag body => some (p, tag, body)
  | .outputSetup p tag body => some (p, tag, body)
  | .outputStart p tag body => some (p, tag, body)
  | .outputStop p tag body => some (p, tag, body)
  | .headSetup p tag body => some (p, tag, body)
  | .headQuery p tag body => some (p, tag, body)
  | .headMode p tag body => some (p, tag, body)
  | .meshWrite p tag body => some (p, tag, body)
  | .meshRead p tag body => some (p, tag, body)
  | .meshCommit p tag body => some (p, tag, body)
  | .meshDiscard p tag body => some (p, tag, body)
  | .meshHold p tag body => some (p, tag, body)
  | .meshQuery p tag body => some (p, tag, body)
  | .meshGenerate p tag body _ => some (p, tag, body)
  | .meshShift p tag body _ => some (p, tag, body)
  | .meshCopy p tag body _ => some (p, tag, body)
  | .seamDefine p tag body => some (p, tag, body)
  | .seamDelete p tag body => some (p, tag, body)
  | .seamQuery p tag body => some (p, tag, body)
  | .seamPin p tag body => some (p, tag, body)
  | .seamFades p tag body => some (p, tag, body)
  | .curveWrite p tag body => some (p, tag, body)
  | .curveRead p tag body => some (p, tag, body)
  | .headState p tag body => some (p, tag, body)
  | .presenceSetup p tag body => some (p, tag, body)
  | .tableWrite p tag body => some (p, tag, body)
  | .tableRead p tag body => some (p, tag, body)
  | .tableCommit p tag body => some (p, tag, body)
  | .liftSet p tag body => some (p, tag, body)
  | .sourceQuery p tag body => some (p, tag, body)
  | .holdSetup p tag body => some (p, tag, body)
  | .layoutRead p tag body => some (p, tag, body)
  | .layoutApply p tag body => some (p, tag, body)
  | .save p tag body => some (p, tag, body)
  | .saveEraseDone => none
  | .savePageProgrammed => none
  | .saveHeaderProgrammed => none
  | .saveVerifyRead _ => none
  | .saveFlashTimeout => none
  | .abortedFlashOperationEnd => none

/-- A packet with a body within bounds is at most 246 bytes long, sync byte and check included. -/
theorem Machine.requestWire_length (tag kind : Byte) (body : List Byte) (h : bodyOk body = true) :
    body.length ≤ 240 ∧ (Machine.requestWire tag kind body).length ≤ 246 := by
  simp only [bodyOk, decide_eq_true_eq] at h
  refine ⟨h, ?_⟩
  simp only [Machine.requestWire, be1, be2, List.length_cons, List.length_append, List.length_nil]
  omega

/-- Of a command as syntax: where it is a well-formed request its body has at most 240 bytes, and the packet
that brings it, whatever its kind, at most 246 (R161, R162). -/
def Laws.PacketBody.Statement (i : Instr) : Prop :=
  i.wf = true → ∀ p tag body, i.packet? = some (p, tag, body) →
    body.length ≤ 240 ∧ ∀ kind, (Machine.requestWire tag kind body).length ≤ 246

/-- A request within bounds keeps the law. -/
theorem Laws.PacketBody.of_request {i : Instr} {p : Port} {tag : Byte} {body : List Byte}
    (hp : i.packet? = some (p, tag, body)) (hw : i.wf = true → bodyOk body = true) :
    Laws.PacketBody.Statement i := by
  intro h p' tag' body' e
  rw [hp] at e
  cases e
  exact ⟨(Machine.requestWire_length tag 0 body (hw h)).1,
    fun kind => (Machine.requestWire_length tag kind body (hw h)).2⟩

/-- An event keeps the law. -/
theorem Laws.PacketBody.of_event {i : Instr} (hp : i.packet? = none) : Laws.PacketBody.Statement i := by
  intro _ _ _ _ e
  rw [hp] at e
  cases e

theorem Laws.PacketBody.coldReset (straps : BaudRate) :
    Laws.PacketBody.Statement (.coldReset straps) := of_event rfl

theorem Laws.PacketBody.flashIdentifyAnswered (ident : List Byte) :
    Laws.PacketBody.Statement (.flashIdentifyAnswered ident) := of_event rfl

theorem Laws.PacketBody.headerReadAnswered (read : FlashAnswer) :
    Laws.PacketBody.Statement (.headerReadAnswered read) := of_event rfl

theorem Laws.PacketBody.bodyReadAnswered (read : FlashAnswer) :
    Laws.PacketBody.Statement (.bodyReadAnswered read) := of_event rfl

theorem Laws.PacketBody.startupFlashTimeout :
    Laws.PacketBody.Statement (.startupFlashTimeout) := of_event rfl

theorem Laws.PacketBody.framePeriodExpiry :
    Laws.PacketBody.Statement (.framePeriodExpiry) := of_event rfl

theorem Laws.PacketBody.followTimeout :
    Laws.PacketBody.Statement (.followTimeout) := of_event rfl

theorem Laws.PacketBody.fadeSettle (slot : Slot) :
    Laws.PacketBody.Statement (.fadeSettle slot) := of_event rfl

theorem Laws.PacketBody.holdTimeExpiry :
    Laws.PacketBody.Statement (.holdTimeExpiry) := of_event rfl

theorem Laws.PacketBody.sourceFrameStart (opening : FrameOpening) (interval : Nat) (showFirst : Bool) :
    Laws.PacketBody.Statement (.sourceFrameStart opening interval showFirst) := of_event rfl

theorem Laws.PacketBody.sourceFrameEnd (lines : List (List Rgb)) :
    Laws.PacketBody.Statement (.sourceFrameEnd lines) := of_event rfl

theorem Laws.PacketBody.sourceLoss :
    Laws.PacketBody.Statement (.sourceLoss) := of_event rfl

theorem Laws.PacketBody.detectLineChange (h : Head) (level : Bool) :
    Laws.PacketBody.Statement (.detectLineChange h level) := of_event rfl

theorem Laws.PacketBody.sinkDebounceExpiry (h : Head) :
    Laws.PacketBody.Statement (.sinkDebounceExpiry h) := of_event rfl

theorem Laws.PacketBody.presenceExpiry (h : Head) :
    Laws.PacketBody.Statement (.presenceExpiry h) := of_event rfl

theorem Laws.PacketBody.claimLapse (h : Head) :
    Laws.PacketBody.Statement (.claimLapse h) := of_event rfl

theorem Laws.PacketBody.packetReceived (p : Port) (bytes : List Byte) :
    Laws.PacketBody.Statement (.packetReceived p bytes) := of_event rfl

theorem Laws.PacketBody.receiveGapTimeout (p : Port) :
    Laws.PacketBody.Statement (.receiveGapTimeout p) := of_event rfl

theorem Laws.PacketBody.brokenByte (p : Port) :
    Laws.PacketBody.Statement (.brokenByte p) := of_event rfl

theorem Laws.PacketBody.lenOversize (p : Port) (len : Byte) :
    Laws.PacketBody.Statement (.lenOversize p len) := of_event rfl

theorem Laws.PacketBody.replySent (p : Port) :
    Laws.PacketBody.Statement (.replySent p) := of_event rfl

theorem Laws.PacketBody.status (p : Port) (tag : Byte) (body : List Byte) :
    Laws.PacketBody.Statement (.status p tag body) := of_request rfl fun h => h

theorem Laws.PacketBody.noticeRead (p : Port) (tag : Byte) (body : List Byte) :
    Laws.PacketBody.Statement (.noticeRead p tag body) := of_request rfl fun h => h

theorem Laws.PacketBody.noticeMask (p : Port) (tag : Byte) (body : List Byte) :
    Laws.PacketBody.Statement (.noticeMask p tag body) := of_request rfl fun h => h

theorem Laws.PacketBody.restart (p : Port) (tag : Byte) (body : List Byte) :
    Laws.PacketBody.Statement (.restart p tag body) := of_request rfl fun h => h

theorem Laws.PacketBody.outputSetup (p : Port) (tag : Byte) (body : List Byte) :
    Laws.PacketBody.Statement (.outputSetup p tag body) := of_request rfl fun h => h

theorem Laws.PacketBody.outputStart (p : Port) (tag : Byte) (body : List Byte) :
    Laws.PacketBody.Statement (.outputStart p tag body) := of_request rfl fun h => h

theorem Laws.PacketBody.outputStop (p : Port) (tag : Byte) (body : List Byte) :
    Laws.PacketBody.Statement (.outputStop p tag body) := of_request rfl fun h => h

theorem Laws.PacketBody.headSetup (p : Port) (tag : Byte) (body : List Byte) :
    Laws.PacketBody.Statement (.headSetup p tag body) := of_request rfl fun h => h

theorem Laws.PacketBody.headQuery (p : Port) (tag : Byte) (body : List Byte) :
    Laws.PacketBody.Statement (.headQuery p tag body) := of_request rfl fun h => h

theorem Laws.PacketBody.headMode (p : Port) (tag : Byte) (body : List Byte) :
    Laws.PacketBody.Statement (.headMode p tag body) := of_request rfl fun h => h

theorem Laws.PacketBody.meshWrite (p : Port) (tag : Byte) (body : List Byte) :
    Laws.PacketBody.Statement (.meshWrite p tag body) := of_request rfl fun h => h

theorem Laws.PacketBody.meshRead (p : Port) (tag : Byte) (body : List Byte) :
    Laws.PacketBody.Statement (.meshRead p tag body) := of_request rfl fun h => h

theorem Laws.PacketBody.meshCommit (p : Port) (tag : Byte) (body : List Byte) :
    Laws.PacketBody.Statement (.meshCommit p tag body) := of_request rfl fun h => h

theorem Laws.PacketBody.meshDiscard (p : Port) (tag : Byte) (body : List Byte) :
    Laws.PacketBody.Statement (.meshDiscard p tag body) := of_request rfl fun h => h

theorem Laws.PacketBody.meshHold (p : Port) (tag : Byte) (body : List Byte) :
    Laws.PacketBody.Statement (.meshHold p tag body) := of_request rfl fun h => h

theorem Laws.PacketBody.meshQuery (p : Port) (tag : Byte) (body : List Byte) :
    Laws.PacketBody.Statement (.meshQuery p tag body) := of_request rfl fun h => h

theorem Laws.PacketBody.meshGenerate (p : Port) (tag : Byte) (body : List Byte) (during : List Arrival) :
    Laws.PacketBody.Statement (.meshGenerate p tag body during) := of_request rfl fun h => (Bool.and_eq_true_iff.mp h).1

theorem Laws.PacketBody.meshShift (p : Port) (tag : Byte) (body : List Byte) (during : List Arrival) :
    Laws.PacketBody.Statement (.meshShift p tag body during) := of_request rfl fun h => (Bool.and_eq_true_iff.mp h).1

theorem Laws.PacketBody.meshCopy (p : Port) (tag : Byte) (body : List Byte) (during : List Arrival) :
    Laws.PacketBody.Statement (.meshCopy p tag body during) := of_request rfl fun h => (Bool.and_eq_true_iff.mp h).1

theorem Laws.PacketBody.seamDefine (p : Port) (tag : Byte) (body : List Byte) :
    Laws.PacketBody.Statement (.seamDefine p tag body) := of_request rfl fun h => h

theorem Laws.PacketBody.seamDelete (p : Port) (tag : Byte) (body : List Byte) :
    Laws.PacketBody.Statement (.seamDelete p tag body) := of_request rfl fun h => h

theorem Laws.PacketBody.seamQuery (p : Port) (tag : Byte) (body : List Byte) :
    Laws.PacketBody.Statement (.seamQuery p tag body) := of_request rfl fun h => h

theorem Laws.PacketBody.seamPin (p : Port) (tag : Byte) (body : List Byte) :
    Laws.PacketBody.Statement (.seamPin p tag body) := of_request rfl fun h => h

theorem Laws.PacketBody.seamFades (p : Port) (tag : Byte) (body : List Byte) :
    Laws.PacketBody.Statement (.seamFades p tag body) := of_request rfl fun h => h

theorem Laws.PacketBody.curveWrite (p : Port) (tag : Byte) (body : List Byte) :
    Laws.PacketBody.Statement (.curveWrite p tag body) := of_request rfl fun h => h

theorem Laws.PacketBody.curveRead (p : Port) (tag : Byte) (body : List Byte) :
    Laws.PacketBody.Statement (.curveRead p tag body) := of_request rfl fun h => h

theorem Laws.PacketBody.headState (p : Port) (tag : Byte) (body : List Byte) :
    Laws.PacketBody.Statement (.headState p tag body) := of_request rfl fun h => h

theorem Laws.PacketBody.presenceSetup (p : Port) (tag : Byte) (body : List Byte) :
    Laws.PacketBody.Statement (.presenceSetup p tag body) := of_request rfl fun h => h

theorem Laws.PacketBody.tableWrite (p : Port) (tag : Byte) (body : List Byte) :
    Laws.PacketBody.Statement (.tableWrite p tag body) := of_request rfl fun h => h

theorem Laws.PacketBody.tableRead (p : Port) (tag : Byte) (body : List Byte) :
    Laws.PacketBody.Statement (.tableRead p tag body) := of_request rfl fun h => h

theorem Laws.PacketBody.tableCommit (p : Port) (tag : Byte) (body : List Byte) :
    Laws.PacketBody.Statement (.tableCommit p tag body) := of_request rfl fun h => h

theorem Laws.PacketBody.liftSet (p : Port) (tag : Byte) (body : List Byte) :
    Laws.PacketBody.Statement (.liftSet p tag body) := of_request rfl fun h => h

theorem Laws.PacketBody.sourceQuery (p : Port) (tag : Byte) (body : List Byte) :
    Laws.PacketBody.Statement (.sourceQuery p tag body) := of_request rfl fun h => h

theorem Laws.PacketBody.holdSetup (p : Port) (tag : Byte) (body : List Byte) :
    Laws.PacketBody.Statement (.holdSetup p tag body) := of_request rfl fun h => h

theorem Laws.PacketBody.layoutRead (p : Port) (tag : Byte) (body : List Byte) :
    Laws.PacketBody.Statement (.layoutRead p tag body) := of_request rfl fun h => h

theorem Laws.PacketBody.layoutApply (p : Port) (tag : Byte) (body : List Byte) :
    Laws.PacketBody.Statement (.layoutApply p tag body) := of_request rfl fun h => h

theorem Laws.PacketBody.save (p : Port) (tag : Byte) (body : List Byte) :
    Laws.PacketBody.Statement (.save p tag body) := of_request rfl fun h => h

theorem Laws.PacketBody.saveEraseDone :
    Laws.PacketBody.Statement (.saveEraseDone) := of_event rfl

theorem Laws.PacketBody.savePageProgrammed :
    Laws.PacketBody.Statement (.savePageProgrammed) := of_event rfl

theorem Laws.PacketBody.saveHeaderProgrammed :
    Laws.PacketBody.Statement (.saveHeaderProgrammed) := of_event rfl

theorem Laws.PacketBody.saveVerifyRead (read : FlashAnswer) :
    Laws.PacketBody.Statement (.saveVerifyRead read) := of_event rfl

theorem Laws.PacketBody.saveFlashTimeout :
    Laws.PacketBody.Statement (.saveFlashTimeout) := of_event rfl

theorem Laws.PacketBody.abortedFlashOperationEnd :
    Laws.PacketBody.Statement (.abortedFlashOperationEnd) := of_event rfl

end Sys2Proof
end

