-- ==== Sys2Proof/Laws/Tables.lean ====
section
/-! SUPPORT. Runs of entries and nodes, the order of a table, the clash of bands, and who may edit: each shared
function said once by what it answers. -/

namespace Sys2Proof.Machine

/-! ## Runs of entries -/

/-- The entries written behind a fixed part of a body read back from there. -/
theorem entriesAt_append (pre : List Byte) (l : List Nat) (hl : ∀ x ∈ l, x < 65536) :
    entriesAt (pre ++ l.flatMap be2) pre.length l.length = l := by
  have h := entries_read l hl []
  rw [List.append_nil] at h
  conv_rhs => rw [← h]
  refine List.map_congr_left fun k _ => ?_
  rw [u16_append_right _ _ _ (by omega)]
  congr 1
  omega

/-- What a run written into a table leaves at each place. -/
theorem writeEntries_get : ∀ (l t : List Nat) (start i : Nat), start + l.length ≤ t.length →
    (writeEntries t start l)[i]? = if start ≤ i ∧ i < start + l.length then l[i - start]? else t[i]?
  | [], t, start, i, _ => by
    simp only [writeEntries, List.length_nil]
    rw [if_neg (by omega)]
  | x :: l, t, start, i, h => by
    simp only [List.length_cons] at h
    simp only [writeEntries, List.length_cons]
    rw [writeEntries_get l _ _ _ (by simp only [List.length_set]; omega)]
    by_cases h1 : i = start
    · subst h1
      rw [if_neg (by omega), if_pos (by omega), List.getElem?_set_self (by omega), Nat.sub_self]
      rfl
    · rw [List.getElem?_set_ne (by omega)]
      by_cases h2 : start + 1 ≤ i ∧ i < start + 1 + l.length
      · rw [if_pos h2, if_pos (by omega), show i - start = (i - (start + 1)) + 1 by omega,
          List.getElem?_cons_succ]
      · rw [if_neg h2, if_neg (by omega)]

@[simp] theorem writeEntries_length : ∀ (l t : List Nat) (start : Nat), (writeEntries t start l).length = t.length
  | [], _, _ => rfl
  | _ :: l, t, start => by simp [writeEntries, writeEntries_length l]

/-- What a run of nodes written into a bank leaves at each place. -/
theorem writeRun_get : ∀ (l bank : List Node) (start i : Nat), start + l.length ≤ bank.length →
    (writeRun bank start l)[i]? = if start ≤ i ∧ i < start + l.length then l[i - start]? else bank[i]?
  | [], bank, start, i, _ => by
    simp only [writeRun, List.length_nil]
    rw [if_neg (by omega)]
  | x :: l, bank, start, i, h => by
    simp only [List.length_cons] at h
    simp only [writeRun, List.length_cons]
    rw [writeRun_get l _ _ _ (by simp only [List.length_set]; omega)]
    by_cases h1 : i = start
    · subst h1
      rw [if_neg (by omega), if_pos (by omega), List.getElem?_set_self (by omega), Nat.sub_self]
      rfl
    · rw [List.getElem?_set_ne (by omega)]
      by_cases h2 : start + 1 ≤ i ∧ i < start + 1 + l.length
      · rw [if_pos h2, if_pos (by omega), show i - start = (i - (start + 1)) + 1 by omega,
          List.getElem?_cons_succ]
      · rw [if_neg h2, if_neg (by omega)]

@[simp] theorem writeRun_length : ∀ (l bank : List Node) (start : Nat), (writeRun bank start l).length = bank.length
  | [], _, _ => rfl
  | _ :: l, bank, start => by simp [writeRun, writeRun_length l]

@[simp] theorem rewriteRun_length (f : Nat → Node → Node) : ∀ (n k : Nat) (bank : List Node),
    (rewriteRun f n k bank).1.length = bank.length
  | 0, _, _ => rfl
  | n + 1, k, bank => by simp [rewriteRun, rewriteRun_length f n]

@[simp] theorem copyRun_length (src : List Node) : ∀ (n a b : Nat) (bank : List Node),
    (copyRun src n a b bank).length = bank.length
  | 0, _, _, _ => rfl
  | n + 1, a, b, bank => by simp [copyRun, copyRun_length src n]

@[simp] theorem copyWithin_length : ∀ (n a b : Nat) (bank : List Node), (copyWithin n a b bank).length = bank.length
  | 0, _, _, _ => rfl
  | n + 1, a, b, bank => by simp [copyWithin, copyWithin_length n]

/-! ## The order of a table -/

/-- A list does not decrease exactly where no entry is below the one before it. -/
theorem nonDecreasing_iff : ∀ l : List Nat,
    nonDecreasing l = true ↔ ∀ k, k + 1 < l.length → l.getD k 0 ≤ l.getD (k + 1) 0
  | [] => by simp [nonDecreasing]
  | [_] => by simp [nonDecreasing]
  | x :: y :: l => by
    simp only [nonDecreasing, Bool.and_eq_true, decide_eq_true_eq, nonDecreasing_iff (y :: l)]
    constructor
    · rintro ⟨h1, h2⟩ k hk
      cases k with
      | zero => simpa using h1
      | succ k => simpa using h2 k (by simpa using hk)
    · intro h
      exact ⟨by simpa using h 0 (by simp), fun k hk => by simpa using h (k + 1) (by simpa using hk)⟩

/-- No first fall is found exactly in a list that does not decrease. -/
theorem firstFall_eq_none : ∀ (l : List Nat) (k : Nat), firstFall k l = none ↔ nonDecreasing l = true
  | [], _ => by simp [nonDecreasing, firstFall]
  | [_], _ => by simp [nonDecreasing, firstFall]
  | x :: y :: l, k => by
    simp only [firstFall, nonDecreasing, Bool.and_eq_true, decide_eq_true_eq]
    split
    · simp
      omega
    · rw [firstFall_eq_none (y :: l)]
      simp
      omega

/-- The first fall is the index of the first entry below the one before it. -/
theorem firstFall_eq_some : ∀ (l : List Nat) (k m : Nat), m + 1 < l.length → l.getD (m + 1) 0 < l.getD m 0 →
    (∀ i, i < m → l.getD i 0 ≤ l.getD (i + 1) 0) → firstFall k l = some (k + m + 1)
  | [], _, _, h, _, _ => by simp at h
  | [_], _, _, h, _, _ => by simp at h
  | x :: y :: l, k, m, h, h1, h2 => by
    simp only [firstFall]
    cases m with
    | zero =>
      rw [if_pos (by simpa using h1)]
    | succ m =>
      have h0 := h2 0 (by omega)
      simp only [List.getD_cons_zero, List.getD_cons_succ] at h0
      rw [if_neg (by omega), firstFall_eq_some (y :: l) (k + 1) m (by simpa using h) (by simpa using h1)
        (fun i hi => by simpa using h2 (i + 1) (by omega))]
      congr 1
      omega

/-! ## Bands -/

/-- A seam is free of clashes exactly where no other slot holds an overlapping band of its orientation that
shares a head. -/
theorem freeOfClash_iff (sl : Slot) (g : SeamGeometry) (s : State) : freeOfClash sl g s.geometry = true ↔
    ∀ sl' q, sl' ≠ sl → s.seams.get sl' = some q → q.geo.orientation = g.orientation →
      (∃ h, g.names h = true ∧ q.geo.names h = true) → ¬ g.overlaps q.geo := by
  unfold freeOfClash
  rw [List.all_eq_true]
  constructor
  · intro H sl' q hne hq ho hx hov
    have := H sl' (by simp)
    simp only [State.geometry, hq, Option.map_some, Bool.or_eq_true, beq_iff_eq, hne, false_or,
      Bool.not_eq_true', SeamGeometry.clashes] at this
    obtain ⟨h, h1, h2⟩ := hx
    simp only [SeamGeometry.names, Bool.or_eq_true, beq_iff_eq] at h1 h2
    unfold SeamGeometry.overlaps at hov
    simp [ho, hov] at this
    rcases h1 with h1 | h1 <;> rcases h2 with h2 | h2 <;> simp_all
  · intro H k _
    by_cases hne : k = sl
    · simp [hne]
    · cases hq : s.seams.get k with
      | none => simp [State.geometry, hq]
      | some q =>
        have := H k q hne hq
        simp only [State.geometry, hq, Option.map_some, Bool.or_eq_true, Bool.not_eq_true', SeamGeometry.clashes]
        right
        by_contra hc
        simp only [Bool.not_eq_false, Bool.and_eq_true, decide_eq_true_eq, Bool.or_eq_true, beq_iff_eq] at hc
        obtain ⟨⟨h1, h2⟩, h3⟩ := hc
        refine this h1.symm ?_ h3
        simp only [SeamGeometry.names, Bool.or_eq_true, beq_iff_eq]
        rcases h2 with ((h | h) | h) | h
        · exact ⟨_, .inl rfl, .inl h⟩
        · exact ⟨_, .inr rfl, .inl h⟩
        · exact ⟨_, .inl rfl, .inr h⟩
        · exact ⟨_, .inr rfl, .inr h⟩

/-- Bands lie inside a new tile exactly where every seam naming the head does. -/
theorem State.bandsInside_iff (s : State) (h : Head) (t : Tile) : s.bandsInside h t = true ↔
    ∀ sl q, s.seams.get sl = some q → q.geo.names h = true → q.geo.inTile t = true := by
  simp only [State.bandsInside, List.all_eq_true, Quad.mem_toList]
  constructor
  · intro H sl q hq hn
    have := H _ ⟨sl, rfl⟩
    simpa [hq, hn] using this
  · rintro H x ⟨sl, rfl⟩
    cases hq : s.seams.get sl with
    | none => rfl
    | some q =>
      have := H sl q hq
      cases hnn : q.geo.names h <;> simp_all

/-! ## Authority -/

/-- A port that may edit a head's meshes has authority for the six requests that edit them. -/
theorem State.authorised_edit {k : Kind} {p : Port} {h : Head} {body : List Byte} {s : State}
    (hk : k ∈ [Kind.meshWrite, .meshCommit, .meshDiscard, .meshGenerate, .meshShift, .meshCopy])
    (hb : u8 body 0 = h.toNat) (hd : k = .meshDiscard → p ≠ .ap → u8 body 1 = 0) (he : s.mayEdit p h) :
    s.authorised k p body = true := by
  rcases he with rfl | ⟨rfl, hh⟩
  · rfl
  · have hx : Idx4.ofNat? (u8 body 0) = some h := by rw [hb, Idx4.ofNat?_toNat]
    by_cases hm : k = .meshDiscard
    · subst hm
      simp [State.authorised, kindHead?, hx, hh, hd rfl (by simp)]
    · fin_cases hk <;> first | exact absurd rfl hm | simp [State.authorised, kindHead?, hx, hh]

/-- A claim stands in a port's way exactly where another port owns it. -/
theorem HeadMesh.claimedByOther_eq_false {m : HeadMesh} {p : Port} :
    m.claimedByOther p = false ↔ ∀ c, m.claim = some c → c.owner = p := by
  unfold HeadMesh.claimedByOther
  cases m.claim <;> simp

end Sys2Proof.Machine
end

