-- ==== Sys2Proof/Tests/Slice0.lean ====
section
/-! SUPPORT. Tests: the well-formedness checks on ill-formed terms, the worked cases of the spec, and a state that meets
the hypotheses of each statement. Expected values come from the spec's own tables and examples. -/

namespace Sys2Proof.Tests

-- One theorem at a time: elaborated side by side they ask for more threads than the memory limit leaves.
set_option Elab.async false

open Sys2Proof.Machine

/-! ## Well-formedness: each check refuses an ill-formed term -/

theorem test_wf_ident : (Instr.flashIdentifyAnswered []).wf = false := by decide

theorem test_wf_header : (Instr.headerReadAnswered ⟨[0x5A], false⟩).wf = false := by decide

theorem test_wf_body_read : (Instr.bodyReadAnswered ⟨[], false⟩).wf = false := by decide

theorem test_wf_verify_read : (Instr.saveVerifyRead ⟨[], false⟩).wf = false := by decide

theorem test_wf_frame_code : (Instr.sourceFrameEnd [[⟨0, 4096, 0⟩]]).wf = false := by decide

theorem test_wf_bytes : (Instr.packetReceived .ap []).wf = false := by decide

theorem test_wf_len_in_range : (Instr.lenOversize .ap 240).wf = false := by decide

theorem test_wf_long_body : (Instr.status .ap 0 (List.replicate 241 0)).wf = false := by decide +kernel

theorem test_wf_long_operation_body : (Instr.meshShift .ap 0 (List.replicate 241 0) []).wf = false := by decide +kernel

theorem test_wf_arrivals : (Instr.meshCopy .ap 0 [] [⟨64, .ap, []⟩, ⟨63, .ap, []⟩]).wf = false := by decide

theorem test_wf_good : (Instr.meshCopy .ap 0 [] [⟨63, .ap, []⟩, ⟨64, .ap, []⟩]).wf = true := by decide

/-! ## The wires -/

/-- R161's check is the cyclic check with polynomial 0x8005 and start value 0xFFFF, unreflected; for the nine
digits it is 0xAEE7. -/
theorem test_crc_digits : crc [0x31, 0x32, 0x33, 0x34, 0x35, 0x36, 0x37, 0x38, 0x39] = 0xAEE7 := by decide +kernel

/-- The table gives no row bits (opcode_table.json): no word spells a command. -/
theorem test_no_word_spells : decodeTableWord 8 0xA5 = none := by decide

/-! ## Grids, curves, tables and layouts -/

/-- 61 columns and 35 rows at 3,840 by 2,160 with S = 64; 31 by 18 at 1,920 by 1,080 (1.5). -/
theorem test_grid : OutputSetup.cold.columns = 61 ∧ OutputSetup.cold.rows = 35 ∧
    (OutputSetup.mk 1920 1080 64 .source true).columns = 31 ∧ (OutputSetup.mk 1920 1080 64 .source true).rows = 18 := by
  decide

/-- Worked case D: u = 64,443 and 65,536 in columns 59 and 60, v = 36,044 and 37,137 in rows 33 and 34. -/
theorem test_flat_mesh : flatNode .cold .canvas 59 33 = ⟨64443, 36044, true⟩ ∧
    flatNode .cold .canvas 60 34 = ⟨65536, 37137, true⟩ := by decide

/-- Entries of SMOOTH that 4.7 lists. -/
theorem test_smooth : smoothCurve.getD 16 0 = 640 ∧ smoothCurve.getD 17 0 = 713 ∧ smoothCurve.getD 32 0 = 2048 ∧
    smoothCurve.getD 47 0 = 3383 ∧ smoothCurve.getD 48 0 = 3456 ∧ smoothCurve.getD 63 0 = 4093 ∧
    smoothCurve.getD 64 0 = 4096 := by decide

/-- Entries of the default tables that 7.13, 7.14 and 7.16 use. -/
theorem test_default_tables : defaultDecode.getD 63 0 = 3968 ∧ defaultDecode.getD 64 0 = 4095 ∧
    defaultDecode.getD 187 0 = 34968 ∧ defaultDecode.getD 188 0 = 35343 ∧ wholeSqrt (65536 * 14) = 957 ∧
    wholeSqrt (65536 * 15) = 991 ∧ wholeSqrt (65536 * 137) = 2996 ∧ wholeSqrt (65536 * 138) = 3007 := by decide

/-- GRID_2X2 at overlap 12 (10.7): tiles of heads 0 and 3, bands of V0 and H1. -/
theorem test_grid_2x2 : (preset? 5).map (fun q => (q.tile 12 ⟨.i0, 0, 0⟩, q.tile 12 ⟨.i3, 1, 1⟩,
      q.geometry 12 ⟨.i0, .vertical, .i0, .i1, 0⟩, q.geometry 12 ⟨.i3, .horizontal, .i1, .i3, 0⟩)) =
    some (⟨0, 2258, 0, 1270⟩, ⟨1836, 4095, 1033, 2303⟩, ⟨.vertical, .i0, .i1, 1836, 2258, 1⟩,
      ⟨.horizontal, .i1, .i3, 1033, 1270, 1⟩) := by decide

/-- PAIR_H at overlap 16 (10.6). -/
theorem test_pair : (preset? 1).map (fun q => (q.tile 16 ⟨.i0, 0, 0⟩, q.tile 16 ⟨.i1, 1, 0⟩,
      q.geometry 16 ⟨.i0, .vertical, .i0, .i1, 0⟩)) =
    some (⟨0, 2339, 0, 2303⟩, ⟨1755, 4095, 0, 2303⟩, ⟨.vertical, .i0, .i1, 1755, 2339, 1⟩) := by decide

/-- The flat mesh of head 1 in that layout: u = 28,704 in column 1 and 65,536 in column 60 (10.6). -/
theorem test_pair_mesh : (flatNode .cold ⟨1755, 4095, 0, 2303⟩ 1 0).u = 28704 ∧
    (flatNode .cold ⟨1755, 4095, 0, 2303⟩ 60 0).u = 65536 := by decide

/-! ## The pixel computation (7.12 to 7.16, 8.5) -/

/-- Worked case A, S1: the position of the pixel in its cell. -/
theorem test_case_a_mesh : cellOf 64 61 100 = (1, 36) ∧ cellOf 64 35 70 = (1, 6) ∧
    cellMean 64 36 6 1040 2080 1056 2096 = 1627 ∧ cellMean 64 36 6 1600 1616 2624 2640 = 1705 := by decide

/-- The seam of worked case A. -/
def bandA : SeamGeometry := ⟨.vertical, .i0, .i1, 96, 160, 0⟩

/-- Worked case A, S5 to S9: lin 4,008, w 3,732, lw 3,652, code 966, output 242. -/
theorem test_case_a : decodeStep defaultDecode 1013 = 4008 ∧
    bandA.factor ⟨.shared, none⟩ .cold .i0 1627 = 3732 ∧ attenuate 4008 3732 = 3652 ∧
    liftStep 0 3732 3652 = 3652 ∧ encodeStep defaultEncode 3652 = 966 ∧ depthStep .d10 966 = 242 := by decide

/-- Worked case B: settled SOLO_FALLING with lift0 = 96, output 256. -/
theorem test_case_b : bandA.factor ⟨.soloFalling, none⟩ .cold .i0 1627 = 4096 ∧ liftStep 96 4096 4008 = 4098 ∧
    depthStep .d10 (encodeStep defaultEncode 4098) = 256 := by decide

/-- Worked case C: the fade at k = 3 and k = 7 of 8, outputs 246 and 252. -/
theorem test_case_c : bandA.factor ⟨.shared, some ⟨.shared, .soloFalling, 3, 8⟩⟩ .cold .i0 1627 = 3869 ∧
    bandA.factor ⟨.shared, some ⟨.shared, .soloFalling, 7, 8⟩⟩ .cold .i0 1627 = 4051 ∧
    attenuate 4008 3869 = 3786 ∧ depthStep .d10 (encodeStep defaultEncode 3786) = 246 ∧
    depthStep .d10 (encodeStep defaultEncode (attenuate 4008 4051)) = 252 := by decide

/-- A source frame as worked case D has it at its last pixel, and dark elsewhere. -/
def frameD : SourceFrame := ⟨⟨1920, 1080⟩, List.replicate 1079 [] ++ [List.replicate 1919 ⟨0, 0, 0⟩ ++ [⟨3000, 0, 0⟩]]⟩

/-- Worked case D, S1 to S4: the last pixel samples the last source pixel, clamped. -/
theorem test_case_d_sample : cellMean 64 63 47 64443 65536 64443 65536 = 65519 ∧
    cellMean 64 63 47 36044 36044 37137 37137 = 36847 ∧ frameD.sample ⟨65519, 36847⟩ .r = 3000 := by
  decide +kernel

/-- Worked case D, S5 to S9: the code 3,000 passes the default tables. -/
theorem test_case_d : encodeStep defaultEncode (attenuate (decodeStep defaultDecode 3000) 4096) = 3000 := by decide

/-- The corner of 7.12: ramp values 597 and 2,952, weights 977, 166, 2,521 and 430. -/
theorem test_corner :
    (SeamGeometry.mk .vertical .i0 .i1 1836 2258 1).ramp .cold 31000 = 597 ∧
    (SeamGeometry.mk .horizontal .i0 .i2 1033 1270 1).ramp .cold 19000 = 2952 ∧
    [weightOf [3499, 1144], weightOf [597, 1144], weightOf [3499, 2952], weightOf [597, 2952]] =
      [977, 166, 2521, 430] := by decide

/-- WEIGHT_VIEW at the point of worked case A (8.5): outputs 977 and 305. -/
theorem test_weight_view : depthStep .d10 (encodeStep defaultEncode (3732 * 65535 / 4096)) = 977 ∧
    depthStep .d10 (encodeStep defaultEncode (364 * 65535 / 4096)) = 305 := by decide

/-- Widening (R137): the highest code of each depth becomes 4,095. -/
theorem test_widen : widen .d8 255 = 4095 ∧ widen .d10 1023 = 4095 ∧ widen .d12 4095 = 4095 ∧ widen .d8 0 = 0 := by
  decide

/-! ## Small states -/

/-- A small raster: 640 by 360 with S = 128, a grid of 6 by 4 nodes. -/
def smallSetup : OutputSetup := ⟨640, 360, 128, .source, false⟩

/-- A part whose cold start has ended with no image, on the small raster. -/
def base : State :=
  { State.reset with
    startPhase := .ended
    startCode := 0x12
    flashTimer := none
    setup := smallSetup
    mesh := Quad.const (.flat smallSetup .canvas) }

/-- The same part with a request in hand. -/
def hand (k : Kind) (p : Port) (body : List Byte) (s : State) : State :=
  { s with inHand := some ⟨p, 7, k.code, body⟩ }

/-- The state a command leaves. -/
def after (c : Instr) (s : State) : State :=
  match exec c s with
  | .next t => t
  | .fault _ => s
  | .refused _ => s

/-- The status of the last reply in a port's buffer. -/
def answer? (p : Port) (s : State) : Option Status := (s.ports.get p).replies.getLast?.map (·.status)

/-- Two heads with the tiles of PAIR_H at overlap 16, enabled, with their sinks detected and contributing. -/
def pair : State :=
  { base with
    heads := ⟨{ base.heads.a0 with tile := ⟨0, 2339, 0, 2303⟩ },
      { base.heads.a1 with enabled := true, tile := ⟨1755, 4095, 0, 2303⟩ }, base.heads.a2, base.heads.a3⟩
    monitor := ⟨⟨.notWatched, .on, true, true, none, true⟩, ⟨.notWatched, .on, true, true, none, true⟩,
      base.monitor.a2, base.monitor.a3⟩ }

/-- A seam between heads 0 and 1, settled at a mode or fading, with N_out = 2 and N_in = 48. -/
def seam01 (m t : SeamMode) (f : Option Fade) : Seam :=
  ⟨⟨.vertical, .i0, .i1, 1755, 2339, 1⟩, .auto, 2, 48, m, t, f⟩

/-- The pair with its seam settled SHARED in slot 0, RUNNING at a fixed rate. -/
def seamed : State :=
  { pair with
    timing := .running .fixed false 0
    seams := ⟨some (seam01 .shared .shared none), none, none, none⟩ }

/-- The pair with its seam fading toward SOLO_FALLING at k, head 1 no longer contributing. -/
def fading (k : Nat) : State :=
  { seamed with
    monitor := seamed.monitor.set .i1 { seamed.monitor.a1 with sink := false, line := false, contributes := false }
    seams := ⟨some (seam01 .shared .soloFalling (some ⟨.shared, .soloFalling, k, 2⟩)), none, none, none⟩ }

/-- A claim of a port on head 1. -/
def claimed (p : Port) (s : State) : State :=
  { s with mesh := s.mesh.set .i1 { s.mesh.a1 with claim := some ⟨p, 3000⟩ } }

/-- A commit pending on head 1. -/
def pended (s : State) : State := { s with mesh := s.mesh.set .i1 { s.mesh.a1 with commitPending := true } }

/-- A save in flight. -/
def saved (x : SaveState) (s : State) : State := { s with save := x, flashTimer := some 0, image := [1, 2, 3] }

/-! ## One command each, on the small states -/

/-- The sequence of 4.4, request by request: a head port, a band too narrow, a band outside a tile, a good one. -/
theorem test_seam_define_refusals :
    answer? (.head .i1) (after (.seamDefine (.head .i1) 7 [0, 0, 0, 1, 6, 219, 9, 35, 1, 0]) pair) = some .denied ∧
    answer? .ap (after (.seamDefine .ap 7 ([0, 0, 0, 1] ++ be2 1755 ++ be2 1765 ++ [1, 0])) pair) = some .invalid ∧
    answer? .ap (after (.seamDefine .ap 7 ([0, 0, 0, 1] ++ be2 1700 ++ be2 2300 ++ [1, 0])) pair) = some .conflict := by
  decide

theorem test_seam_define :
    (after (.seamDefine .ap 7 ([0, 0, 0, 1] ++ be2 1755 ++ be2 2339 ++ [1, 0])) pair).seams.a0 =
      some (seam01 .shared .shared none) := by decide

/-- 4.4: a second vertical seam that shares end unit 2,339 and head 1 conflicts; a horizontal one does not. -/
theorem test_seam_define_second :
    answer? .ap (after (.seamDefine .ap 7 ([1, 0, 1, 2] ++ be2 2339 ++ be2 2600 ++ [1, 0])) seamed) = some .conflict ∧
    answer? .ap (after (.seamDefine .ap 7 ([1, 1, 0, 2] ++ be2 1000 ++ be2 1200 ++ [2, 0])) seamed) = some .done := by
  decide

/-- 4.4: HEAD_SETUP that leaves the band outside head 1's tile conflicts (R16). -/
theorem test_head_setup_conflict :
    answer? .ap (after (.headSetup .ap 7 ([1, 1] ++ be2 1900 ++ be2 4095 ++ be2 0 ++ be2 2303 ++ [12])) seamed) =
      some .conflict := by decide

/-- 1.8: disabling head 1 takes its contribution away and starts a fade with k = 0 and N = 2. -/
theorem test_head_setup_disables :
    (after (.headSetup .ap 7 ([1, 0] ++ be2 1755 ++ be2 4095 ++ be2 0 ++ be2 2303 ++ [12])) seamed).seams.a0 =
      some (seam01 .shared .soloFalling (some ⟨.shared, .soloFalling, 0, 2⟩)) := by decide

/-- 1.8: the two output frame starts after it, k = 1 and then settled SOLO_FALLING. -/
theorem test_fade_frames :
    ((fading 0).advanceFade .i0).seams.a0 = some (seam01 .shared .soloFalling (some ⟨.shared, .soloFalling, 1, 2⟩)) ∧
    (after (.fadeSettle .i0) (fading 1)).seams.a0 = some (seam01 .soloFalling .soloFalling none) ∧
    (after (.fadeSettle .i0) (fading 1)).published.map (·.a0) = some (some ⟨.soloFalling, none⟩) := by
  decide +kernel

/-- R76: head 1 returns at k = 1 of 2, and the fade reverses to run back in one frame. -/
theorem test_fade_reverses :
    (after (.sinkDebounceExpiry .i1) (after (.detectLineChange .i1 true) (fading 1))).seams.a0 =
      some (seam01 .soloFalling .shared (some ⟨.soloFalling, .shared, 1, 2⟩)) := by decide

/-- R91: 200 ms after the line was asserted the sink is DETECTED; R94: head 0 then contributes. -/
theorem test_sink : (after (.detectLineChange .i0 true) base).monitor.a0.debounce = some 0 ∧
    (after (.sinkDebounceExpiry .i0) (after (.detectLineChange .i0 true) base)).contributes .i0 = true := by decide

/-- R25: the claim of a silent port lapses, and the lapse record names it. -/
theorem test_claim_lapse : (after (.claimLapse .i1) (claimed (.head .i1) base)).mesh.a1.lapse = some (.head .i1) ∧
    (after (.claimLapse .i1) (claimed (.head .i1) base)).mesh.a1.claim = none := by decide

/-- R25 keeps a claim while its commit is pending. -/
theorem test_claim_held : after (.claimLapse .i1) (pended (claimed (.head .i1) base)) =
    pended (claimed (.head .i1) base) := by decide +kernel

/-- R36: setting hold while a head port holds the claim forces it out. -/
theorem test_hold : (after (.meshHold .ap 7 [1, 1]) (claimed (.head .i1) base)).mesh.a1.lapse = some (.head .i1) ∧
    ((after (.meshHold .ap 7 [1, 1]) (claimed (.head .i1) base)).heads.get .i1).hold = true := by decide

/-- R29 and R32: a commit while STOPPED lands at once, and MESH_LANDED of head 1 is set on every port. -/
theorem test_commit_stopped :
    (after (.meshCommit (.head .i1) 7 [1]) (claimed (.head .i1) base)).mesh.a1.claim = none ∧
    ((after (.meshCommit (.head .i1) 7 [1]) (claimed (.head .i1) base)).ports.get .ap).notices = 2 := by decide

/-- R29: while RUNNING it is pending. -/
theorem test_commit_running :
    (after (.meshCommit (.head .i1) 7 [1]) (claimed (.head .i1) seamed)).mesh.a1.commitPending = true := by decide

/-- R27: a node beyond its range is clamped, and the reply is ADJUSTED. -/
theorem test_mesh_write :
    (after (.meshWrite (.head .i1) 7 ([1, 0, 2, 1] ++ be3s 100000 ++ be3s (-5) ++ [1])) base).mesh.a1.staged.getD 2
      Node.none = ⟨81919, -5, true⟩ ∧
    answer? (.head .i1) (after (.meshWrite (.head .i1) 7 ([1, 0, 2, 1] ++ be3s 100000 ++ be3s (-5) ++ [1])) base) =
      some .adjusted := by decide

/-- R44: copying one node ahead inside the STAGED bank repeats the first node. -/
theorem test_mesh_copy :
    ((after (.meshCopy .ap 7 [0, 0, 1, 0, 5, 0, 1, 0, 0] []) base).mesh.a0.staged.take 6).map (·.u) =
      [0, 0, 0, 0, 0, 0] := by decide

/-- R42: a shift moves its run and no other node. -/
theorem test_mesh_shift :
    ((after (.meshShift .ap 7 ([0, 0, 0, 0, 1] ++ be3s 16 ++ be3s (-16)) []) base).mesh.a0.staged.take 2) =
      [⟨16, -16, true⟩, flatNode smallSetup .canvas 1 0] := by decide

/-- R40: the affine position with a column step of 256ths. -/
theorem test_mesh_generate :
    ((after (.meshGenerate .ap 7 ([0, 0, 1, 0, 1] ++ be3s 10 ++ be3s 20 ++ be3s 384 ++ be3s 0 ++ be3s 0 ++ be3s 0 ++
      [0]) []) base).mesh.a0.staged.getD 1 Node.none) = ⟨12, 20, false⟩ := by decide

/-- R18 and R129: a level above 4,095 is clamped. -/
theorem test_head_mode :
    ((after (.headMode .ap 7 ([0, 2, 1] ++ be2 0 ++ be2 0 ++ be2 0 ++ be2 5000 ++ be2 0)) base).heads.get .i0).mode =
      .pattern (.rawGrid 4095) := by decide

/-- R87 and R88: a period given to an unwatched head makes it PRESENT with its timer at 0. -/
theorem test_presence_setup :
    (after (.presenceSetup .ap 7 [0, 2]) base).monitor.a0.presence = .present 0 ∧
    (after (.presenceExpiry .i0) (after (.presenceSetup .ap 7 [0, 2]) base)).monitor.a0.presence = .lost := by decide

/-- R149: a hold time above 600 is clamped. -/
theorem test_hold_setup : (after (.holdSetup .ap 7 (be2 700)) base).source.holdTime = 600 := by decide

/-- A staged decode table whose entry 130 is below the one before it. -/
def fallen : State :=
  { base with staged := base.staged.write 0 (List.replicate 130 9 ++ List.replicate 127 8) }

/-- R125: the reply to a commit of a table that falls at entry 130 carries 130. -/
theorem test_table_commit :
    ((after (.tableCommit .ap 7 [0]) fallen).ports.get .ap).replies = [⟨7, .invalid, [0, 130]⟩] := by
  decide +kernel

/-- R64: a curve that does not end at 4,096 is refused. -/
theorem test_curve_write : answer? .ap (after (.curveWrite .ap 7 (3 :: List.replicate 130 0)) base) = some .invalid := by
  decide +kernel

/-- R161: a packet with a bad check is answered CHECKFAIL with its TAG. -/
theorem test_packet_checkfail :
    ((after (.packetReceived .ap [0xA5, 0, 9, 1, 0, 0]) base).ports.get .ap).replies = [⟨9, .checkfail, []⟩] := by
  decide +kernel

/-- R165: a good packet of an unknown kind is answered UNKNOWN. -/
theorem test_packet_unknown :
    answer? .ap (after (.packetReceived .ap (requestWire 9 0xEE [])) base) = some .unknown := by decide +kernel

/-- R165: during the cold start every request is answered WAIT. -/
theorem test_packet_wait : answer? .ap (after (.status .ap 7 []) State.reset) = some .wait := by decide

/-- R177: a restart sets STARTED alone. -/
theorem test_restart : ((after (.restart .ap 7 []) base).ports.get (.head .i2)).notices = BitVec.ofNat 19 (2 ^ 18) := by
  decide

/-- R179: a flash with no marker ends the cold start with 0x12. -/
theorem test_no_marker :
    (after (.headerReadAnswered ⟨List.replicate 256 0xFF, false⟩) { State.reset with startPhase := .header }).startCode =
      0x12 := by decide +kernel

/-- R184: a save cut off in WRITING_BODY leaves no marker, whatever the read brings; the next cold start ends
with 0x12. -/
theorem test_cut_off_save :
    (after (.headerReadAnswered ⟨imageMarker ++ List.replicate 252 0, false⟩)
      { after (.coldReset .b115200) (saved (.writingBody 0) base) with startPhase := .header }).startCode = 0x12 := by
  decide +kernel

/-- R164: the SEAM_QUERY body of an EMPTY slot is the slot and 19 zeros. -/
theorem test_seam_query_empty :
    ((after (.seamQuery .ap 7 [2]) base).ports.get .ap).replies = [⟨7, .done, 2 :: List.replicate 19 0⟩] := by decide

/-- R161: a sync byte after a gap of more than 20 ms begins a packet, it is no byte of the one cut off. -/
theorem test_stale_gap :
    ((after (.packetReceived .ap [0xA5])
      { base with ports := { base.ports with ap := { base.ports.ap with assembler := .packet [0] 60001 } } }).ports.get
        .ap).assembler = .packet [] 0 := by decide

/-- R142: the loss of the source while LOCKED, with a hold time above 0, leads to HOLDING. -/
theorem test_loss : (after .sourceLoss { base with source := { base.source with
    state := .locked, locked := some ⟨640, 360⟩, lossTimer := some 9 } }).source.state = .holding := by decide

/-- R6: the measured period is limited to 1,001/24,000 s. -/
theorem test_measured : (after (.sourceFrameStart ⟨.d8, 640⟩ 200000 true) { base with source := { base.source with
    state := .locked, lossTimer := some 5, prevStartLocked := true } }).measured = some 125125 := by decide

/-! ## States that meet the hypotheses of the statements

One theorem for a statement, or for each group of its clauses: the hypotheses hold together on the state named. -/

/-- The output running with a pacing, five ticks after a frame start. -/
def running (p : Pacing) (stop : Bool) (s : State) : State := { s with timing := .running p stop 5 }

/-- The input state of a part whose source is LOCKED at the small raster's size. -/
def locked (s : State) : State :=
  { s with
    source := { s.source with state := .locked, locked := some ⟨640, 360⟩, lossTimer := some 9, prevStartLocked := true } }

/-- A frame in flight. -/
def filling (s : State) : State := { s with buffers := ⟨.filling 640, .free, .free⟩ }

/-- Lines of a frame of the smallest supported size. -/
def smallFrame : List (List Rgb) := List.replicate 360 (List.replicate 640 ⟨255, 0, 7⟩)

/-- A queue that holds twelve entries, three from each of four ports. -/
def crowd : List Entry :=
  [.ap, .head .i0, .head .i1, .head .i2].flatMap fun p => List.replicate 3 ⟨p, 1, 0x01, []⟩

/-- A reply buffer with five bytes of free room: 5 times 246 bytes, and 45. -/
def packed : List Reply := List.replicate 5 ⟨1, .done, List.replicate 240 0⟩ ++ [⟨1, .done, List.replicate 39 0⟩]

/-- The alignment port's state replaced in one field. -/
def withReplies (l : List Reply) (s : State) : State :=
  { s with ports := { s.ports with ap := { s.ports.ap with replies := l } } }

/-- The alignment port's assembler inside a packet, a gap after its last byte. -/
def waitsIn (taken : List Byte) (gap : Nat) (s : State) : State :=
  { s with ports := { s.ports with ap := { s.ports.ap with assembler := .packet taken gap } } }

/-- The alignment port's assembler inside a packet. -/
def inPacket (taken : List Byte) (s : State) : State := waitsIn taken 4 s

theorem witness_EmptyQueueTick :
    (seamed.pending = [] ∧ seamed.timing = .running .fixed false 0) ∧
    (base.pending = [] ∧ base.timing = .stopped ∧ (base.ports.get .ap).assembler = .hunt) ∧
    ((inPacket [0] base).pending = [] ∧ ((inPacket [0] base).ports.get .ap).assembler = .packet [0] 4) ∧
    ((hand .status .ap [] base).monitor.get .i0).presence ≠ .present 0 :=
  ⟨⟨rfl, rfl⟩, ⟨rfl, rfl, rfl⟩, ⟨rfl, rfl⟩, by decide⟩

theorem witness_RequestComesIn :
    (¬ base.hasInHand .status .ap 7 [] ∧ base.inHand = none ∧ (base.ports.get .ap).assembler = .hunt ∧
      (base.packetArrives .ap 7 Kind.status.code []).hasInHand .status .ap 7 []) ∧
    (¬ (waitsIn [0] 60001 base).hasInHand .status .ap 7 [] ∧ (waitsIn [0] 60001 base).inHand = none ∧
      ((waitsIn [0] 60001 base).ports.get .ap).assembler = .packet [0] 60001 ∧ 60000 < 60001) ∧
    (¬ (waitsIn [0] 60000 base).hasInHand .status .ap 7 [] ∧
      ((waitsIn [0] 60000 base).ports.get .ap).assembler = .packet [0] 60000) ∧
    ¬ (hand .noticeRead .ap [] base).hasInHand .status .ap 7 [] ∧ (hand .noticeRead .ap [] base).inHand ≠ none :=
  ⟨⟨(fun h => by cases h), rfl, rfl, rfl⟩, ⟨(fun h => by cases h), rfl, rfl, by decide⟩,
    ⟨(fun h => by cases h), rfl⟩, (fun h => by cases h), by decide⟩

theorem witness_PacketAssembled :
    (base.ports.get .ap).assembler = .hunt ∧ (List.replicate 240 (0 : Byte)).length ≤ 240 ∧
    (0 : Byte).toNat * 256 + (0 : Byte).toNat ≠ (crc (be1 0 ++ [9, 1] ++ [])).toNat :=
  ⟨rfl, by rw [List.length_replicate], by decide +kernel⟩

/-- What the Presence Monitor holds of head 0 where it stands at a presence. -/
def heardAs (x : Presence) : Monitor :=
  ({ base with monitor := base.monitor.set .i0 { base.monitor.a0 with presence := x } }).monitor.get .i0

theorem witness_PacketArrival :
    State.reset.started = false ∧ (base.started = true ∧ ∀ k : Kind, k.code ≠ 0xEE) ∧
    (Kind.status.code = 0x01 ∧ [(0 : Byte)].length ≠ Kind.status.bodyLength [0]) ∧
    ((base.monitor.get .i0).presence = .notWatched ∧ (heardAs (.present 40)).presence = .present 40 ∧
      (heardAs .absent).presence = .absent ∧ (heardAs .lost).presence = .lost) ∧
    (([] : List Byte).length = Kind.status.bodyLength [] ∧ base.restartClaims .ap = base ∧
      base.queue.length < 12 ∧ base.queueBytes + 0 ≤ 1536 ∧ base.queue.countP (fun e => e.port == Port.ap) < 4 ∧
      6 ≤ base.freeRoom .ap) ∧
    ¬ ({ base with queue := crowd }).queue.length < 12 ∧ (withReplies packed base).freeRoom .ap < 6 :=
  ⟨rfl, ⟨rfl, fun k => by cases k <;> decide⟩, ⟨rfl, by decide⟩, ⟨rfl, rfl, rfl, rfl⟩, ⟨rfl, rfl, by decide, by decide, by decide, by decide⟩,
    by decide, by decide +kernel⟩

theorem witness_PortLines :
    ((inPacket [] base).ports.get .ap).assembler = .packet [] 4 ∧ 240 < (241 : Byte).toNat ∧
    (((waitsIn [0] 60001 base).ports.get .ap).assembler = .packet [0] 60001 ∧ 60000 < 60001) ∧
    ((withReplies packed base).ports.get .ap).replies ≠ [] := ⟨rfl, by decide, ⟨rfl, by decide⟩, by decide⟩

/-- Head 0 held. -/
def held : State := { base with heads := base.heads.set .i0 { base.heads.a0 with hold := true } }

theorem witness_UnauthorisedDenied :
    (hand .restart (.head .i0) [] base).hasInHand .restart (.head .i0) 7 [] ∧
    ((hand .headMode (.head .i0) [1, 0] base).hasInHand .headMode (.head .i0) 7 [1, 0] ∧
      u8 [1, 0] 0 ≠ Idx4.i0.toNat) ∧
    ((hand .meshCommit (.head .i0) [0] held).hasInHand .meshCommit (.head .i0) 7 [0] ∧
      ((hand .meshCommit (.head .i0) [0] held).heads.get .i0).hold = true) ∧
    ((hand .meshDiscard (.head .i0) [0, 1] base).hasInHand .meshDiscard (.head .i0) 7 [0, 1] ∧ u8 [0, 1] 1 ≠ 0) ∧
    (hand .sourceQuery (.head .i0) [1] base).hasInHand .sourceQuery (.head .i0) 7 [1] ∧ u8 [1] 0 ≠ 0 :=
  ⟨rfl, ⟨rfl, by decide⟩, ⟨rfl, rfl⟩, ⟨rfl, by decide⟩, rfl, by decide⟩

theorem witness_SaveRefuses :
    (hand .save .ap [] (saved (.erasing 0) base)).hasInHand .save .ap 7 [] ∧
    (hand .save .ap [] (saved (.erasing 0) base)).saving = true := ⟨rfl, rfl⟩

theorem witness_HeadPortIsolation :
    ∃ t, exec (Kind.command .headMode (.head .i1) 7 [1, 1]) base = .next t := ⟨_, rfl⟩

theorem witness_step : ∃ t, step base = .next t := ⟨_, rfl⟩

theorem witness_QueueLawsKept : base.queueLawful ∧ base.executorLawful ∧ base.coldStartLawful :=
  ⟨⟨by decide, by decide, fun p => Nat.zero_le 4⟩, fun _ e h => absurd h (by simp [base, State.reset, State.cold]),
    fun h => by simp [base, State.started] at h⟩

theorem witness_coldStart : State.reset.coldStartLawful ∧ State.reset.started = false :=
  ⟨fun _ => ⟨rfl, rfl, rfl, rfl, rfl, by decide⟩, rfl⟩

theorem witness_RoomLawKept : base.curvesLawful ∧ base.roomLawful := by
  constructor
  · intro n h1 h2
    obtain rfl | rfl | rfl | rfl | rfl : n = 3 ∨ n = 4 ∨ n = 5 ∨ n = 6 ∨ n = 7 := by omega
    all_goals decide +kernel
  · intro p
    cases p with
    | ap => decide
    | head k => cases k <;> decide

theorem witness_OutputStartAndStop :
    ({ hand .outputStart .ap [] base with setup := ⟨640, 360, 128, .fixed .f24, false⟩ }).hasInHand .outputStart .ap 7 [] ∧
    (hand .outputStart .ap [] (locked base)).hasInHand .outputStart .ap 7 [] ∧
    ((locked base).timing = .stopped ∧ (locked base).setup.rate = .source ∧ (locked base).source.state = .locked) ∧
    (base.timing = .stopped ∧ base.setup.rate = .source ∧ base.source.state ≠ .locked) ∧
    (running .fixed true base).timing = .running .fixed true 5 ∧
    (hand .outputStop .ap [] base).hasInHand .outputStop .ap 7 [] :=
  ⟨rfl, rfl, ⟨rfl, rfl, rfl⟩, ⟨rfl, rfl, by decide⟩, rfl, rfl⟩

/-- The body of an OUTPUT_SETUP. -/
def setupBody (w h z r a : Nat) : List Byte := be2 w ++ be2 h ++ be1 z ++ be1 r ++ be1 a

theorem witness_OutputSetup :
    ((hand .outputSetup .ap (setupBody 640 360 64 0 1) (running .fixed false base)).hasInHand .outputSetup .ap 7
        (setupBody 640 360 64 0 1) ∧ (running .fixed false base).running = true ∧
      (running .fixed false base).saving = false) ∧
    ((hand .outputSetup .ap (setupBody 639 360 64 0 1) base).hasInHand .outputSetup .ap 7 (setupBody 639 360 64 0 1) ∧
      base.running = false ∧ ¬ 640 ≤ 639) ∧
    (fits2 4096 ∧ fits2 2304 ∧ (Rate.fixed .f60).code = 9) ∧
    (640 = base.setup.w ∧ 360 = base.setup.h ∧ 128 = base.setup.s) ∧ ¬ 4096 = base.setup.w := by
  refine ⟨⟨rfl, rfl, rfl⟩, ⟨rfl, rfl, by decide⟩, ⟨?_, ?_, rfl⟩, ⟨rfl, rfl, rfl⟩, by decide⟩ <;> simp [fits2]

theorem witness_FrameExpiries :
    ((running .fixed false { base with setup := ⟨640, 360, 128, .fixed .f60, false⟩ }).timing = .running .fixed false 5 ∧
      (running .fixed false { base with setup := ⟨640, 360, 128, .fixed .f60, false⟩ }).setup.rate = .fixed .f60) ∧
    (running .freeRunning true base).timing = .running .freeRunning true 5 ∧
    (running .following true base).timing = .running .following true 5 := ⟨⟨rfl, rfl⟩, rfl, rfl⟩

/-- A source in HOLDING at the end of its hold time. -/
def holding : State :=
  { running .fixed false base with source := { base.source with state := .holding, holdCount := 120 } }

/-- A frame of the smallest supported size. -/
def smallSource : SourceFrame := ⟨⟨640, 360⟩, List.replicate 360 (List.replicate 640 ⟨255, 0, 7⟩)⟩

/-- A frame that has come in whole waits beside the one shown. -/
def ready (s : State) : State := { s with buffers := ⟨.shown smallSource, .ready smallSource, .filling 640⟩ }

theorem witness_FrameStartAndStop :
    (base.source.state ≠ .holding ∧ holding.source.state = .holding ∧
      holding.source.holdTime < holding.source.holdCount + 1) ∧
    (base.source.state = .noSignal ∧ (locked base).source.state = .locked ∧
      (ready (locked base)).buffers.any Buffer.isReady = true ∧ (locked base).buffers.any Buffer.isReady = false) ∧
    (fading 0).seams.get .i0 = some (seam01 .shared .soloFalling (some ⟨.shared, .soloFalling, 0, 2⟩)) ∧
    (fading 1).seams.get .i0 = some (seam01 .shared .soloFalling (some ⟨.shared, .soloFalling, 1, 2⟩)) ∧
    (fading 1).seams.get .i1 = none ∧ (seam01 .shared .shared none).fade = none ∧
    ((pended seamed).saving = false ∧ ((pended seamed).mesh.get .i1).commitPending = true) ∧
    (saved (.erasing 0) (pended seamed)).saving = true :=
  ⟨⟨by decide, rfl, by decide⟩, ⟨rfl, rfl, rfl, rfl⟩, rfl, rfl, rfl, rfl, ⟨rfl, rfl⟩, rfl⟩

theorem witness_FadeAndHoldExpiries :
    ((fading 1).timing = .running .fixed false 0 ∧
      (fading 1).seams.get .i0 = some (seam01 .shared .soloFalling (some ⟨.shared, .soloFalling, 1, 2⟩))) ∧
    (running .following false (fading 1)).timing = .running .following false 5 ∧
    (running .freeRunning false (fading 1)).timing = .running .freeRunning false 5 ∧
    holding.timing = .running .fixed false 5 ∧ holding.source.state = .holding ∧
    holding.source.holdTime < holding.source.holdCount + 1 :=
  ⟨⟨rfl, rfl⟩, rfl, rfl, rfl, rfl, by decide⟩

/-- The body of a HEAD_SETUP. -/
def headBody (n e : Nat) (t : Tile) (d : Nat) : List Byte := be1 n ++ be1 e ++ tileBytes t ++ be1 d

theorem witness_HeadSetup :
    ((hand .headSetup .ap (headBody 4 1 .canvas 12) base).hasInHand .headSetup .ap 7 (headBody 4 1 .canvas 12) ∧
      base.saving = false ∧ ¬ 4 ≤ 3) ∧
    ((hand .headSetup .ap (headBody 1 1 ⟨1900, 4095, 0, 2303⟩ 12) seamed).hasInHand .headSetup .ap 7
        (headBody 1 1 ⟨1900, 4095, 0, 2303⟩ 12) ∧
      seamed.seams.get .i0 = some (seam01 .shared .shared none) ∧
      (seam01 .shared .shared none).geo.names .i1 = true ∧
      (seam01 .shared .shared none).geo.inTile ⟨1900, 4095, 0, 2303⟩ = false) ∧
    (Tile.canvas.x0 + 256 ≤ Tile.canvas.x1 + 1 ∧ Tile.canvas.y0 + 256 ≤ Tile.canvas.y1 + 1 ∧ Tile.canvas.x1 ≤ 4095 ∧
      Tile.canvas.y1 ≤ 2303) ∧ ∀ sl, base.seams.get sl = none :=
  ⟨⟨rfl, rfl, by decide⟩, ⟨rfl, rfl, rfl, rfl⟩, by decide, fun sl => by cases sl <;> rfl⟩

theorem witness_ModeLiftAndHold :
    (((hand .headMode .ap [4, 0] base).hasInHand .headMode .ap 7 [4, 0] ∧ 3 < u8 [4, 0] 0) ∧
      ((hand .headMode (.head .i0) [0, 3] base).hasInHand .headMode (.head .i0) 7 [0, 3] ∧
        u8 [0, 3] 0 = Idx4.i0.toNat ∧ 2 < u8 [0, 3] 1) ∧
      ((hand .headMode .ap (be1 0 ++ be1 2 ++ patternBytes ⟨5, rgbZero, 0, 0⟩) base).hasInHand .headMode .ap 7
          (be1 0 ++ be1 2 ++ patternBytes ⟨5, rgbZero, 0, 0⟩) ∧
        u8 (be1 0 ++ be1 2 ++ patternBytes ⟨5, rgbZero, 0, 0⟩) 1 = 2 ∧
        4 < u8 (be1 0 ++ be1 2 ++ patternBytes ⟨5, rgbZero, 0, 0⟩) 2) ∧
      (hand .liftSet .ap (be1 4 ++ rgbBytes rgbZero ++ rgbBytes rgbZero) base).hasInHand .liftSet .ap 7
          (be1 4 ++ rgbBytes rgbZero ++ rgbBytes rgbZero) ∧
        3 < u8 (be1 4 ++ rgbBytes rgbZero ++ rgbBytes rgbZero) 0) ∧
    (Port.speaksFor (.head .i1) .i1 ∧ Port.speaksFor .ap .i1) ∧
    (hand .headMode (.head .i1) (be1 1 ++ be1 0 ++ [9]) base).hasInHand .headMode (.head .i1) 7 (be1 1 ++ be1 0 ++ [9]) ∧
    ((PatternFields.mk 3 rgbZero 5000 9).pattern? = some (.canvasGrid 9 5000) ∧
      (hand .headMode .ap (be1 0 ++ be1 2 ++ patternBytes ⟨3, rgbZero, 5000, 9⟩) base).hasInHand .headMode .ap 7
        (be1 0 ++ be1 2 ++ patternBytes ⟨3, rgbZero, 5000, 9⟩)) ∧
    ((hand .liftSet .ap (be1 0 ++ rgbBytes ⟨2048, 0, 0⟩ ++ rgbBytes rgbZero) base).hasInHand .liftSet .ap 7
      (be1 0 ++ rgbBytes ⟨2048, 0, 0⟩ ++ rgbBytes rgbZero) ∧ base.saving = false) ∧
    (hand .holdSetup .ap (be2 601) base).hasInHand .holdSetup .ap 7 (be2 601) ∧ fits2 601 :=
  ⟨⟨⟨rfl, by decide⟩, ⟨rfl, rfl, by decide⟩, ⟨rfl, by decide, by decide⟩, rfl, by decide⟩, ⟨.inr rfl, .inl rfl⟩, rfl,
    ⟨rfl, rfl⟩, ⟨rfl, rfl⟩, rfl, by simp [fits2]⟩

theorem witness_Reports :
    (hand .status (.head .i3) [] base).hasInHand .status (.head .i3) 7 [] ∧
    (hand .headQuery (.head .i3) (be1 0) base).hasInHand .headQuery (.head .i3) 7 (be1 0) ∧
    (hand .meshQuery .ap (be1 3) base).hasInHand .meshQuery .ap 7 (be1 3) ∧
    (hand .seamQuery .ap (be1 3) base).hasInHand .seamQuery .ap 7 (be1 3) ∧
    (hand .curveRead .ap (be1 7) base).hasInHand .curveRead .ap 7 (be1 7) ∧
    (hand .sourceQuery (.head .i0) (be1 0) base).hasInHand .sourceQuery (.head .i0) 7 (be1 0) ∧
    (hand .sourceQuery .ap (be1 1) base).hasInHand .sourceQuery .ap 7 (be1 1) ∧
    ((hand .headQuery .ap (be1 4) base).hasInHand .headQuery .ap 7 (be1 4) ∧
      (hand .meshQuery .ap (be1 4) base).hasInHand .meshQuery .ap 7 (be1 4) ∧
      (hand .seamQuery .ap (be1 4) base).hasInHand .seamQuery .ap 7 (be1 4) ∧
      (hand .curveRead .ap (be1 8) base).hasInHand .curveRead .ap 7 (be1 8) ∧
      (hand .sourceQuery .ap (be1 2) base).hasInHand .sourceQuery .ap 7 (be1 2)) ∧
    (base.seams.get .i3 = none ∧ seamed.seams.get .i0 = some (seam01 .shared .shared none)) :=
  ⟨rfl, rfl, rfl, rfl, rfl, rfl, rfl, ⟨rfl, rfl, rfl, rfl, rfl⟩, rfl, rfl⟩

/-- The body of a MESH_READ or a TABLE_READ. -/
def runBody (n x start count : Nat) : List Byte := be1 n ++ be1 x ++ be2 start ++ be1 count

theorem witness_RunReads :
    ((hand .meshRead .ap (runBody 0 1 23 1) base).hasInHand .meshRead .ap 7 (runBody 0 1 23 1) ∧
      23 + 1 ≤ base.setup.nodes ∧ fits2 23) ∧
    ((hand .meshRead .ap (runBody 0 1 24 1) base).hasInHand .meshRead .ap 7 (runBody 0 1 24 1) ∧
      ¬ 24 + 1 ≤ base.setup.nodes) ∧
    ((hand .tableRead .ap (runBody 4 0 193 64) base).hasInHand .tableRead .ap 7 (runBody 4 0 193 64) ∧
      193 + 64 ≤ 257) ∧
    ((hand .tableRead .ap (runBody 5 0 193 64) base).hasInHand .tableRead .ap 7 (runBody 5 0 193 64) ∧ ¬ 5 ≤ 4) ∧
    (hand .layoutRead .ap (be1 6 ++ be1 25) base).hasInHand .layoutRead .ap 7 (be1 6 ++ be1 25) ∧
    (hand .layoutRead .ap (be1 5 ++ be1 25) base).hasInHand .layoutRead .ap 7 (be1 5 ++ be1 25) ∧
      (preset? 5).isSome = true :=
  ⟨⟨rfl, by decide, by simp [fits2]⟩, ⟨rfl, by decide⟩, ⟨rfl, by decide⟩, ⟨rfl, by decide⟩, rfl, rfl, rfl⟩

/-- Head 0 watched with a period of 1 s, its line asserted a moment ago. -/
def watched : State :=
  { base with
    heads := base.heads.set .i0 { base.heads.a0 with period := .one }
    monitor := base.monitor.set .i0 ⟨.present 40, .on, false, true, some 3, false⟩ }

theorem witness_InputExpiries :
    (watched.monitor.get .i0).debounce = some 3 ∧ (watched.monitor.get .i0).presence = .present 40 ∧
    (watched.heads.get .i0).period.ticks = some 3000000 ∧
    ((claimed .ap base).mesh.get .i1).claim = some ⟨.ap, 3000⟩ ∧
    ((claimed .ap base).mesh.get .i1).commitPending = false := ⟨rfl, rfl, rfl, rfl, rfl⟩

theorem witness_HeadStateAndPresenceSetup :
    (((hand .headState .ap [4, 0] base).hasInHand .headState .ap 7 [4, 0] ∧ 3 < u8 [4, 0] 0) ∧
      ((hand .headState (.head .i0) [0, 3] base).hasInHand .headState (.head .i0) 7 [0, 3] ∧
        u8 [0, 3] 0 = Idx4.i0.toNat ∧ 2 < u8 [0, 3] 1) ∧
      ((hand .presenceSetup .ap [4, 0] base).hasInHand .presenceSetup .ap 7 [4, 0] ∧ 3 < u8 [4, 0] 0) ∧
      (hand .presenceSetup .ap [0, 6] base).hasInHand .presenceSetup .ap 7 [0, 6] ∧ 5 < u8 [0, 6] 1) ∧
    (Port.speaksFor (.head .i0) .i0 ∧
      (hand .headState (.head .i0) (be1 0 ++ be1 2) base).hasInHand .headState (.head .i0) 7 (be1 0 ++ be1 2)) ∧
    ((hand .presenceSetup .ap (be1 0 ++ be1 2) base).hasInHand .presenceSetup .ap 7 (be1 0 ++ be1 2) ∧
      base.saving = false ∧ (base.heads.get .i0).period = .off ∧ Period.off ≠ .one) ∧
    ((watched.heads.get .i0).period ≠ .off ∧ (watched.heads.get .i0).period ≠ .eight ∧
      ∃ t, (watched.monitor.get .i0).presence = .present t) :=
  ⟨⟨⟨rfl, by decide⟩, ⟨rfl, rfl, by decide⟩, ⟨rfl, by decide⟩, rfl, by decide⟩, ⟨.inr rfl, rfl⟩,
    ⟨rfl, rfl, rfl, by decide⟩, by decide, by decide, ⟨40, rfl⟩⟩

theorem witness_ContributionLawsKept : base.contributionsLawful ∧ base.monitorsLawful := by
  constructor <;> intro h
  · cases h <;> exact ⟨fun h => absurd h (by decide), fun h => absurd h.2.1 (by decide)⟩
  · cases h <;> decide

/-- Head 1 has lost its sink, and its contribution is to follow. -/
def lost (s : State) : State :=
  { s with monitor := s.monitor.set .i1 { s.monitor.a1 with sink := false, line := false, contributes := true } }

/-- Head 1 has its sink again, and its contribution is to follow. -/
def back (s : State) : State :=
  { s with monitor := s.monitor.set .i1 { s.monitor.a1 with sink := true, line := true, contributes := false } }

theorem witness_RederiveEffect :
    ((base.monitor.get .i0).contributes = false ∧ (base.monitor.get .i0).sink = false) ∧
    (((lost seamed).monitor.get .i1).contributes = true ∧ ((lost seamed).monitor.get .i1).sink = false ∧
      (lost seamed).seams.get .i0 = some (seam01 .shared .shared none) ∧ (lost seamed).running = true ∧
      Pin.auto.target true false .shared ≠ .shared ∧ (lost pair).running = false) ∧
    (((back (fading 1)).monitor.get .i1).contributes = false ∧ ((back (fading 1)).monitor.get .i1).sink = true ∧
      Pin.auto.target true true .soloFalling = .shared ∧
      (back (fading 1)).seams.get .i0 = some (seam01 .shared .soloFalling (some ⟨.shared, .soloFalling, 1, 2⟩))) ∧
    ((back (fading 0)).seams.get .i0 = some (seam01 .shared .soloFalling (some ⟨.shared, .soloFalling, 0, 2⟩))) ∧
    (seam01 .shared .shared none).geo.names .i1 = true ∧ (seam01 .shared .shared none).geo.names .i2 = false :=
  ⟨⟨rfl, rfl⟩, ⟨rfl, rfl, rfl, rfl, by decide, rfl⟩, ⟨rfl, rfl, rfl, rfl⟩, rfl, rfl, rfl⟩

/-- The seam still settled SHARED, head 1 no longer contributing. -/
def unlit : State := { fading 0 with seams := seamed.seams }

theorem witness_RetargetSettled :
    (seamed.seams.get .i0 = some (seam01 .shared .shared none) ∧ (seam01 .shared .shared none).fade = none ∧
      Pin.auto.target (seamed.contributes .i0) (seamed.contributes .i1) .shared = .shared) ∧
    (unlit.seams.get .i0 = some (seam01 .shared .shared none) ∧ unlit.running = true ∧
      Pin.auto.target (unlit.contributes .i0) (unlit.contributes .i1) .shared ≠ .shared ∧ 2 ≠ 0) ∧
    ({ unlit with timing := .stopped }).running = false := ⟨⟨rfl, rfl, rfl⟩, ⟨rfl, rfl, by decide, by decide⟩, rfl⟩

theorem witness_RetargetFading :
    ((fading 1).seams.get .i0 = some (seam01 .shared .soloFalling (some ⟨.shared, .soloFalling, 1, 2⟩)) ∧
      (seam01 .shared .soloFalling (some ⟨.shared, .soloFalling, 1, 2⟩)).lawful (fading 1).running ∧
      Pin.auto.target ((fading 1).contributes .i0) ((fading 1).contributes .i1) .soloFalling = .soloFalling) ∧
    Pin.auto.target (seamed.contributes .i0) (seamed.contributes .i1) .soloFalling = .shared ∧
    (Pin.fixed .soloRising).target false true .soloFalling ≠ .shared ∧
    (Pin.fixed .soloRising).target false true .soloFalling ≠ .soloFalling :=
  ⟨⟨rfl, ⟨rfl, by decide, rfl, rfl, by decide⟩, rfl⟩, rfl, by decide, by decide⟩

/-- The body of a SEAM_DEFINE. -/
def seamBody (n o x y a b c w : Nat) : List Byte :=
  be1 n ++ be1 o ++ be1 x ++ be1 y ++ be2 a ++ be2 b ++ be1 c ++ be1 w

theorem witness_SeamDefine :
    ((hand .seamDefine .ap (seamBody 0 0 0 1 1755 1770 1 0) pair).hasInHand .seamDefine .ap 7
        (seamBody 0 0 0 1 1755 1770 1 0) ∧ pair.saving = false ∧ ¬ 1755 + 16 ≤ 1770) ∧
    (SeamGeometry.shaped ⟨.vertical, .i0, .i1, 1755, 1771, 7⟩ ∧ fits2 1755 ∧ fits2 1771) ∧
    SeamGeometry.inTile ⟨.vertical, .i0, .i1, 1700, 2300, 1⟩ (pair.heads.get .i1).tile = false ∧
    (SeamGeometry.inTile ⟨.vertical, .i0, .i1, 1755, 1771, 7⟩ (pair.heads.get .i0).tile = true ∧
      SeamGeometry.inTile ⟨.vertical, .i0, .i1, 1755, 1771, 7⟩ (pair.heads.get .i1).tile = true ∧
      ∀ sl, pair.seams.get sl = none) :=
  ⟨⟨rfl, rfl, by decide⟩, ⟨⟨by decide, by decide, by decide, by decide⟩, by simp [fits2], by simp [fits2]⟩, rfl,
    rfl, rfl, fun sl => by cases sl <;> rfl⟩

theorem witness_SeamEdits :
    (((hand .seamDelete .ap [4] seamed).hasInHand .seamDelete .ap 7 [4] ∧ 3 < u8 [4] 0) ∧
      ((hand .seamPin .ap [4, 0] seamed).hasInHand .seamPin .ap 7 [4, 0] ∧ 3 < u8 [4, 0] 0) ∧
      ((hand .seamPin .ap [0, 4] seamed).hasInHand .seamPin .ap 7 [0, 4] ∧ 3 < u8 [0, 4] 1) ∧
      (hand .seamFades .ap [4, 0, 9] seamed).hasInHand .seamFades .ap 7 [4, 0, 9] ∧ 3 < u8 [4, 0, 9] 0) ∧
    ((hand .seamDelete .ap (be1 3) seamed).hasInHand .seamDelete .ap 7 (be1 3) ∧ seamed.saving = false) ∧
    (hand .seamPin .ap (be1 0 ++ be1 2) seamed).hasInHand .seamPin .ap 7 (be1 0 ++ be1 2) ∧
    (hand .seamFades .ap (be1 0 ++ be1 0 ++ be1 255) seamed).hasInHand .seamFades .ap 7 (be1 0 ++ be1 0 ++ be1 255) ∧
    seamed.seams.get .i0 = some (seam01 .shared .shared none) ∧ seamed.seams.get .i3 = none :=
  ⟨⟨⟨rfl, by decide⟩, ⟨rfl, by decide⟩, ⟨rfl, by decide⟩, rfl, by decide⟩, ⟨rfl, rfl⟩, rfl, rfl, rfl, rfl⟩

/-- A curve of the least and the greatest entry. -/
def stepCurve : List Nat := List.replicate 64 0 ++ [4096]

theorem witness_CurveWrite :
    (hand .curveWrite .ap (be1 3 ++ stepCurve.flatMap be2) base).hasInHand .curveWrite .ap 7
      (be1 3 ++ stepCurve.flatMap be2) ∧ base.saving = false ∧ stepCurve.length = 65 ∧
    (∀ x ∈ stepCurve, fits2 x) ∧
    ((stepCurve.map (min 4096)).getD 0 1 = 0 ∧ (stepCurve.map (min 4096)).getD 64 0 = 4096 ∧
      ∀ k, k < 64 → (stepCurve.map (min 4096)).getD k 0 ≤ (stepCurve.map (min 4096)).getD (k + 1) 0) ∧ ¬ 3 ≤ 2 := by
  refine ⟨rfl, rfl, by decide, ?_, ⟨by decide, by decide, by decide +kernel⟩, by decide⟩
  intro x hx
  simp only [stepCurve, List.mem_append, List.mem_replicate, List.mem_singleton] at hx
  unfold fits2
  omega

theorem witness_FadeLawKept : seamed.fadesLawful ∧ (fading 1).fadesLawful := by
  constructor <;> intro sl q h <;> cases sl <;> cases h
  · exact rfl
  · exact ⟨rfl, by decide, rfl, rfl, by decide⟩

theorem witness_BandLawKept : seamed.bandsLawful := by
  intro sl q h
  cases sl <;> cases h
  refine ⟨⟨by decide, by decide, by decide, by decide⟩, fun h _ => by cases h <;> rfl, ?_⟩
  intro sl' q' hne h'
  cases sl' <;> cases h'
  exact absurd rfl hne

/-- A lapse record on head 1 that names port H1. -/
def lapsed : State :=
  { base with mesh := base.mesh.set .i1 { base.mesh.a1 with lapse := some (.head .i1) } }

theorem witness_MeshExamination :
    ((hand .meshCommit .ap [4] base).hasInHand .meshCommit .ap 7 [4] ∧ 3 < u8 [4] 0) ∧
    ((hand .meshCommit (.head .i1) [1] lapsed).hasInHand .meshCommit (.head .i1) 7 [1] ∧ u8 [1] 0 = Idx4.i1.toNat ∧
      lapsed.mayEdit (.head .i1) .i1 ∧ (lapsed.mesh.get .i1).lapse = some (.head .i1)) ∧
    (((pended base).mesh.get .i1).lapse ≠ some .ap ∧ ((pended base).mesh.get .i1).commitPending = true) ∧
    (((claimed .ap base).mesh.get .i1).claim = some ⟨.ap, 3000⟩ ∧ Port.ap ≠ .head .i1) ∧
    ((hand .meshDiscard .ap [1, 1] (pended base)).hasInHand .meshDiscard .ap 7 [1, 1] ∧ u8 [1, 1] 1 = 1 ∧
      ((pended base).mesh.get .i1).commitPending = true ∧ base.mayEdit .ap .i1) ∧
    (hand .meshDiscard .ap [1, 2] base).hasInHand .meshDiscard .ap 7 [1, 2] ∧ 1 < u8 [1, 2] 1 :=
  ⟨⟨rfl, by decide⟩, ⟨rfl, rfl, .inr ⟨rfl, rfl⟩, rfl⟩, ⟨by decide, rfl⟩, ⟨rfl, by decide⟩,
    ⟨rfl, rfl, rfl, .inl rfl⟩, rfl, by decide⟩

/-- The body of a MESH_WRITE of head 1. -/
def writeBody (start : Nat) (l : List Node) : List Byte :=
  be1 1 ++ be2 start ++ be1 l.length ++ l.flatMap nodeBytes

theorem witness_MeshWrite :
    (hand .meshWrite .ap (writeBody 23 [⟨81920, -16385, true⟩]) base).hasInHand .meshWrite .ap 7
      (writeBody 23 [⟨81920, -16385, true⟩]) ∧ base.mayEdit .ap .i1 ∧ fits2 23 ∧
    (fits3 81920 ∧ fits3 (-16385)) ∧ (base.mesh.get .i1).lapse ≠ some .ap ∧
    (base.mesh.get .i1).commitPending = false ∧ (base.mesh.get .i1).claim = none ∧
    (base.mesh.get .i1).staged.length = base.setup.nodes ∧ 23 + 1 ≤ base.setup.nodes ∧ ¬ 24 + 1 ≤ base.setup.nodes :=
  ⟨rfl, .inl rfl, by simp [fits2], by simp [fits3], by decide, rfl, rfl, by decide, by decide, by decide⟩

theorem witness_MeshCommit :
    (hand .meshCommit .ap (be1 1) (claimed .ap seamed)).hasInHand .meshCommit .ap 7 (be1 1) ∧
    (seamed.mayEdit .ap .i1 ∧ ((claimed .ap seamed).mesh.get .i1).lapse ≠ some .ap) ∧
    (((claimed .ap seamed).mesh.get .i1).claim = some ⟨.ap, 3000⟩ ∧
      ((claimed .ap seamed).mesh.get .i1).commitPending = false ∧ (claimed .ap seamed).running = true) ∧
    ((claimed .ap base).running = false ∧ (claimed .ap base).saving = false) ∧
    ((pended (claimed .ap seamed)).mesh.get .i1).commitPending = true ∧
    (((pended base).mesh.get .i1).claim = none ∧ ((pended base).mesh.get .i1).commitPending = true) ∧
    ((base.mesh.get .i1).claim = none ∧ (base.mesh.get .i1).commitPending = false) :=
  ⟨rfl, ⟨.inl rfl, by decide⟩, ⟨rfl, rfl, rfl⟩, ⟨rfl, rfl⟩, rfl, ⟨rfl, rfl⟩, rfl, rfl⟩

theorem witness_MeshDiscardAndHold :
    (((hand .meshHold .ap [4, 0] base).hasInHand .meshHold .ap 7 [4, 0] ∧ 3 < u8 [4, 0] 0) ∧
      (hand .meshHold .ap [1, 2] base).hasInHand .meshHold .ap 7 [1, 2] ∧ 1 < u8 [1, 2] 1) ∧
    ((hand .meshDiscard .ap (be1 1 ++ beBool true) (claimed (.head .i1) base)).hasInHand .meshDiscard .ap 7
        (be1 1 ++ beBool true) ∧ base.mayEdit .ap .i1 ∧
      ((claimed (.head .i1) base).mesh.get .i1).claim = some ⟨.head .i1, 3000⟩ ∧
      ((claimed (.head .i1) base).mesh.get .i1).lapse ≠ some .ap ∧
      ((claimed (.head .i1) base).mesh.get .i1).commitPending = false) ∧
    ((hand .meshDiscard (.head .i1) (be1 1 ++ beBool false) (claimed (.head .i1) base)).hasInHand .meshDiscard
        (.head .i1) 7 (be1 1 ++ beBool false) ∧ base.mayEdit (.head .i1) .i1) ∧
    ((hand .meshHold .ap (be1 1 ++ beBool true) (claimed (.head .i1) base)).hasInHand .meshHold .ap 7
        (be1 1 ++ beBool true) ∧ base.saving = false ∧ (base.heads.get .i1).hold = false) ∧
    (base.mesh.get .i1).claim = none :=
  ⟨⟨⟨rfl, by decide⟩, rfl, by decide⟩, ⟨rfl, .inl rfl, rfl, by decide, rfl⟩, ⟨rfl, .inr ⟨rfl, rfl⟩⟩, ⟨rfl, rfl, rfl⟩,
    rfl⟩

/-- The body of a MESH_SHIFT of head 1 from its first node. -/
def shiftBody (count : Nat) : List Byte := be1 1 ++ be2 0 ++ be2 count ++ be3s 8388607 ++ be3s (-8388608)

/-- The body of a MESH_GENERATE of head 1 from its first node. -/
def generateBody (count vis : Nat) : List Byte :=
  be1 1 ++ be2 0 ++ be2 count ++ be3s 8388607 ++ be3s (-8388608) ++ be3s 0 ++ be3s 0 ++ be3s 0 ++ be3s 0 ++ be1 vis

theorem witness_MeshGenerateAndShift :
    (∀ count vis, (hand .meshGenerate .ap (generateBody count vis) base).hasInHand .meshGenerate .ap 7
        (generateBody count vis) ∧
      (hand .meshShift .ap (shiftBody count) base).hasInHand .meshShift .ap 7 (shiftBody count)) ∧
    base.mayEdit .ap .i1 ∧ (fits2 0 ∧ fits2 24 ∧ fits2 25) ∧ (1 ≤ 24 ∧ 0 + 24 ≤ base.setup.nodes) ∧
    (¬ 1 ≤ 0 ∧ ¬ 0 + 25 ≤ base.setup.nodes ∧ 2 ≤ 2 ∧ ¬ 3 ≤ 2 ∧ 3 < 256) ∧
    (fits3 8388607 ∧ fits3 (-8388608) ∧ fits3 0) ∧ (base.mesh.get .i1).lapse ≠ some .ap ∧
    (base.mesh.get .i1).commitPending = false ∧ (base.mesh.get .i1).claim = none ∧
    (base.mesh.get .i1).staged.length = base.setup.nodes :=
  ⟨fun _ _ => ⟨rfl, rfl⟩, .inl rfl, by simp [fits2], by decide, by decide, by simp [fits3], by decide, rfl, rfl,
    by decide⟩

/-- The body of a MESH_COPY of head 1, one node ahead of its source. -/
def copyBody (count source sel : Nat) : List Byte := be1 1 ++ be2 1 ++ be2 count ++ be1 source ++ be1 sel ++ be2 0

theorem witness_banks : base.banksLawful ∧ base.claimsLawful := by
  constructor <;> intro h <;> cases h <;> decide +kernel

theorem witness_MeshCopy :
    (∀ count source sel, (hand .meshCopy .ap (copyBody count source sel) base).hasInHand .meshCopy .ap 7
      (copyBody count source sel)) ∧ base.mayEdit .ap .i1 ∧ (base.mesh.get .i1).lapse ≠ some .ap ∧
    (base.mesh.get .i1).commitPending = false ∧ (base.mesh.get .i1).claim = none ∧
    (1 ≤ 23 ∧ 1 + 23 ≤ base.setup.nodes ∧ Idx4.i1.toNat ≤ 3 ∧ 1 ≤ 1 ∧ 0 + 23 ≤ base.setup.nodes) ∧
    (¬ 1 ≤ 0 ∧ ¬ 1 + 24 ≤ base.setup.nodes ∧ ¬ 4 ≤ 3 ∧ ¬ 2 ≤ 1) :=
  ⟨fun _ _ _ => rfl, .inl rfl, by decide, rfl, rfl, by decide, by decide⟩

theorem witness_ChunkBound :
    (¬ ∃ e ∈ base.queue, e.port ≠ Port.ap) ∧
    ∃ e ∈ ({ base with queue := crowd }).queue, e.port ≠ Port.ap := by
  constructor
  · rintro ⟨e, he, -⟩
    cases he
  · exact ⟨⟨.head .i0, 1, 0x01, []⟩, by decide, by decide⟩

theorem witness_CommitLocksStaged :
    (∃ t, exec .sourceLoss (pended seamed) = .next t ∧ (t.mesh.get .i1).commitPending = true) ∧
    (pended seamed).landingsLawful ∧ ((pended seamed).mesh.get .i1).commitPending = true :=
  ⟨⟨_, rfl, rfl⟩, (fun h => by cases h), rfl⟩

theorem witness_LandingLawKept : base.landingsLawful := by
  intro _ _ h
  cases h <;> rfl

theorem witness_TableEdits :
    ((hand .tableCommit .ap (be1 5) base).hasInHand .tableCommit .ap 7 (be1 5) ∧ 4 < u8 (be1 5) 0) ∧
    ((hand .tableWrite .ap (be1 4 ++ be2 256 ++ be1 1 ++ [4096].flatMap be2) base).hasInHand .tableWrite .ap 7
      (be1 4 ++ be2 256 ++ be1 1 ++ [4096].flatMap be2) ∧ fits2 256 ∧ fits2 4096 ∧ 256 + 1 ≤ 257 ∧ ¬ 257 + 1 ≤ 257) ∧
    (∀ k, k ≤ 4 → (base.staged.table k).length = 257) ∧
    ((hand .tableCommit .ap (be1 0) base).hasInHand .tableCommit .ap 7 (be1 0) ∧ base.saving = false ∧
      ∀ k, k < 256 → (base.staged.table 0).getD k 0 ≤ (base.staged.table 0).getD (k + 1) 0) ∧
    ((fallen.staged.table 0).length = 257 ∧ (fallen.staged.table 0).getD 130 0 < (fallen.staged.table 0).getD 129 0 ∧
      ∀ i, i < 129 → (fallen.staged.table 0).getD i 0 ≤ (fallen.staged.table 0).getD (i + 1) 0) := by
  refine ⟨⟨rfl, by decide⟩, ⟨rfl, by simp [fits2], by simp [fits2], by decide, by decide⟩, ?_,
    ⟨rfl, rfl, by decide +kernel⟩, by decide +kernel, by decide +kernel, by decide +kernel⟩
  intro k hk
  obtain rfl | rfl | rfl | rfl | rfl : k = 0 ∨ k = 1 ∨ k = 2 ∨ k = 3 ∨ k = 4 := by omega
  all_goals decide +kernel

theorem witness_StoreLawsKept :
    base.tablesLawful ∧ base.countersLawful ∧ base.settingsLawful ∧ base.flashLawful := by
  refine ⟨?_, ⟨by decide, by decide, by decide⟩, ⟨by decide, ?_, by decide, by decide⟩, List.length_replicate⟩
  · intro k hk
    obtain rfl | rfl | rfl | rfl | rfl : k = 0 ∨ k = 1 ∨ k = 2 ∨ k = 3 ∨ k = 4 := by omega
    all_goals exact ⟨⟨by decide +kernel, by decide +kernel⟩, ⟨by decide +kernel, by decide +kernel⟩, by decide +kernel⟩
  · intro h
    cases h <;> exact ⟨by decide, by decide, by decide, fun p h => by cases h⟩

theorem witness_SourceFrameStart :
    ((locked (filling base)).source.lossTimer = some 9 ∧ (locked (filling base)).source.state = .locked ∧
      (locked (filling base)).source.prevStartLocked = true ∧
      (locked (filling base)).buffers.any Buffer.isFilling = true) ∧
    ((running .following false (locked base)).timing = .running .following false 5 ∧ Pacing.following ≠ .fixed) ∧
    (running .freeRunning true (locked base)).timing = .running .freeRunning true 5 ∧
    (running .fixed false (locked base)).timing = .running .fixed false 5 ∧
    ((locked base).timing = .stopped ∧ base.source.state = .noSignal) ∧
    (({ base with source := { base.source with state := .unsupported } }).source.state = .unsupported ∧
      ({ filling base with source := { base.source with state := .acquiring } }).source.state = .acquiring ∧
      ({ base with source := { base.source with state := .black } }).source.state = .black) ∧
    holding.source.state = .holding :=
  ⟨⟨rfl, rfl, rfl, rfl⟩, ⟨rfl, by decide⟩, rfl, rfl, ⟨rfl, rfl⟩, ⟨rfl, rfl, rfl⟩, rfl⟩

theorem witness_buffers : base.buffersLawful ∧ (filling base).buffersLawful ∧ base.viewsLawful := by
  refine ⟨⟨by decide, by decide, by decide, ?_⟩, ⟨by decide, by decide, by decide, ?_⟩, fun _ h => ?_, fun h k _ => ?_⟩
  · intro b hb
    simp [Buffers.toList, base, State.reset, State.cold] at hb
    subst hb
    trivial
  · intro b hb
    simp [Buffers.toList, filling] at hb
    rcases hb with rfl | rfl <;> trivial
  · cases h <;> rfl
  · cases k <;> rfl

theorem witness_SourceFrameEndAndLoss :
    ((filling base).buffers.any Buffer.isFilling = true ∧ smallFrame.length = 360 ∧ ∀ l ∈ smallFrame, l.length = 640) ∧
    ((locked base).source.state = .locked ∧ (locked base).source.locked = some ⟨640, 360⟩) ∧
    (({ base with source := { base.source with state := .unsupported } }).source.state = .unsupported ∧
      base.source.state = .noSignal ∧ holding.source.state = .holding) ∧
    (¬ 640 ≤ 639) ∧ (locked base).source.lossTimer = some 9 ∧
    ∃ a ∈ [[rgbZero], []], ∃ b ∈ [[rgbZero], []], a.length ≠ b.length := by
  refine ⟨⟨rfl, List.length_replicate, ?_⟩, ⟨rfl, rfl⟩, ⟨rfl, rfl, rfl⟩, by decide, rfl, [rgbZero], by simp, [], by simp, by simp⟩
  intro l hl
  simp only [smallFrame, List.mem_replicate] at hl
  rw [hl.2, List.length_replicate]

theorem witness_LayoutApply :
    ((hand .layoutApply .ap (be1 1 ++ be1 3) base).hasInHand .layoutApply .ap 7 (be1 1 ++ be1 3) ∧
      base.saving = false ∧ (preset? 1).isSome = true ∧ (base.mesh.get .i0).commitPending = false ∧
      (base.mesh.get .i1).commitPending = false ∧ (base.mesh.get .i0).claim = none ∧ (base.mesh.get .i1).claim = none) ∧
    (hand .layoutApply .ap (be1 6 ++ be1 3) base).hasInHand .layoutApply .ap 7 (be1 6 ++ be1 3) ∧
    (hand .layoutApply .ap (be1 5 ++ be1 24) seamed).hasInHand .layoutApply .ap 7 (be1 5 ++ be1 24) ∧
    ((pended seamed).mesh.get .i1).commitPending = true ∧
    ((claimed (.head .i1) base).mesh.get .i1).claim = some ⟨.head .i1, 3000⟩ :=
  ⟨⟨rfl, rfl, rfl, rfl, rfl, rfl, rfl⟩, rfl, rfl, rfl, rfl⟩

theorem witness_NoticesAndMasks :
    (hand .noticeRead (.head .i2) [] base).hasInHand .noticeRead (.head .i2) 7 [] ∧
    (hand .noticeMask .ap (be3 524287) base).hasInHand .noticeMask .ap 7 (be3 524287) ∧
    (hand .noticeMask .ap (be3 524288) base).hasInHand .noticeMask .ap 7 (be3 524288) := ⟨rfl, rfl, rfl⟩

theorem witness_RestartEffect :
    (hand .restart .ap [] (saved (.erasing 0) (fading 1))).hasInHand .restart .ap 7 [] ∧
    ((saved (.erasing 0) (fading 1)).saving = true ∧ (saved (.erasing 0) (fading 1)).save = .erasing 0 ∧
      (saved (.erasing 0) (fading 1)).abortedOp = none) ∧
    ((saved (.writingBody 3) base).save = .writingBody 3 ∧ (saved .writingHeader base).save = .writingHeader ∧
      (saved (.verifying [1]) base).save = .verifying [1]) ∧
    (({ saved (.erasing 0) base with abortedOp := some .read }).saving = true ∧
      ({ saved (.erasing 0) base with abortedOp := some .read }).abortedOp = some .read) ∧
    base.saving = false ∧ (watched.monitor.get .i0).presence = .present 40 :=
  ⟨rfl, ⟨rfl, rfl, rfl⟩, ⟨rfl, rfl, rfl⟩, ⟨rfl, rfl⟩, rfl, rfl⟩

/-- A read of a flash of which nothing is known returns what its event brings. -/
theorem returns_asFound (failed : Bool) (offset : Nat) (l : List Byte) : Flash.asFound.returns failed offset l l := by
  have unknown : ∀ n, Flash.asFound.page n = .unknown := by
    intro n
    simp only [Flash.asFound, Flash.page, List.getD_eq_getElem?_getD, List.getElem?_replicate]
    split <;> rfl
  refine ⟨rfl, fun i b hb => ⟨fun _ => hb, fun h => ?_, fun l h => ?_⟩⟩
  · rw [unknown] at h
    cases h
  · rw [unknown] at h
    cases h

/-- A part whose cold start waits for the header. -/
def headerPhase : State := { State.reset with startPhase := .header }

/-- The image that the small part would save. -/
def smallImage : List Byte := base.toImage.body

/-- A part whose cold start waits for a body of a length, with a check. -/
def bodyPhase (length : Nat) (check : BitVec 16) : State := { State.reset with startPhase := .body length check [] }

theorem witness_ColdStart :
    ((saved (.erasing 0) base).save = .erasing 0 ∧ (saved (.writingBody 3) base).save = .writingBody 3 ∧
      base.save = .idle) ∧
    (State.reset.startPhase = .probe ∧ ∃ b ∈ [(0x20 : Byte)], b ≠ 0xFF) ∧
    (headerPhase.startPhase = .header ∧
      ({ headerPhase with flash := headerPhase.flash.eraseSector 0 }).flash.page 0 = .erased) ∧
    (imageMarker.length = 4 ∧ fits2 1 ∧ fits2 65535 ∧ [0, 0, 0, 0] ≠ imageMarker ∧
      headerPhase.flash.returns false 0 (imageMarker ++ be2 1 ++ be4 130816 ++ be2 65535 ++ [])
        (imageMarker ++ be2 1 ++ be4 130816 ++ be2 65535 ++ []) ∧
      headerPhase.flash.returns false 0 (imageMarker ++ be2 1 ++ be4 0 ++ be2 (crc []).toNat ++ [])
        (imageMarker ++ be2 1 ++ be4 0 ++ be2 (crc []).toNat ++ [])) ∧
    ((bodyPhase 1 (crc [9])).startPhase = .body 1 (crc [9]) [] ∧ [(9 : Byte)] ≠ [] ∧
      (bodyPhase 1 (crc [9])).flash.returns false 256 [9] [9] ∧ 1 ≤ ([] ++ [(9 : Byte)]).length ∧
      crc (([] ++ [9]).take 1) = crc [9] ∧ readImage (([] ++ [9]).take 1) = none ∧
      crc (([] ++ [9]).take 1) ≠ crc []) ∧
    (∀ check, (bodyPhase smallImage.length check).startPhase = .body smallImage.length check [] ∧
      (bodyPhase smallImage.length check).flash.returns false 256 smallImage smallImage ∧
      (readImage (([] ++ smallImage).take smallImage.length)).isSome = true) ∧
    (State.reset.started = false ∧ State.reset.flashTimer = some 0) ∧
    (base.setup.autoStart = false ∧ OutputSetup.cold.autoStart = true ∧ base.timing = .stopped) := by
  refine ⟨⟨rfl, rfl, rfl⟩, ⟨rfl, 0x20, by simp, by decide⟩, ⟨rfl, by decide +kernel⟩,
    ⟨rfl, ?_, ?_, by decide, returns_asFound .., returns_asFound ..⟩,
    ⟨rfl, by simp, returns_asFound .., by decide, rfl, by decide, by decide +kernel⟩,
    fun check => ⟨rfl, returns_asFound .., by decide +kernel⟩, ⟨rfl, rfl⟩, rfl, rfl, rfl⟩ <;> simp [fits2]

/-- A save whose image has two pages, in the phase named. -/
def longSave (x : SaveState) : State := { saved x base with image := List.replicate 300 0 }

theorem witness_SavePhases :
    ((hand .save .ap [] base).hasInHand .save .ap 7 [] ∧ base.saving = false ∧ base.abortedOp = none) ∧
    (Flash.asFound.pages.length = 512 ∧ 511 < 512) ∧
    ((longSave (.erasing 0)).save = .erasing 0 ∧ (longSave (.erasing 0)).abortedOp = none ∧
      (longSave (.erasing 0)).image.length ≤ (0 + 1) * 4096) ∧
    (({ longSave (.erasing 0) with image := List.replicate 4097 0 }).image.length = 4097 ∧ (0 + 1) * 4096 < 4097) ∧
    ((longSave (.writingBody 0)).save = .writingBody 0 ∧ 256 ≤ (longSave (.writingBody 0)).image.length ∧
      (longSave (.writingBody 0)).image.length ≤ 256 + (0 + 1) * 256) ∧
    (({ longSave (.writingBody 0) with image := List.replicate 513 0 }).image.length = 513 ∧ 256 + (0 + 1) * 256 < 513) ∧
    (saved .writingHeader base).save = .writingHeader ∧
    ((saved (.verifying [1]) base).save = .verifying [1] ∧
      (saved (.verifying [1]) base).flash.returns false 1 [2] [2] ∧
      (saved (.verifying [1]) base).flash.returns false 1 [9] [9] ∧
      (saved (.verifying [1]) base).flash.returns false 1 [2, 3] [2, 3] ∧
      (([1] ++ [2]).take 3 <+: [(1 : Byte), 2, 3] ∧ ¬ ([1] ++ [9]).take 3 <+: [(1 : Byte), 2, 3] ∧
        ([1] ++ [2, 3]).take 3 = [(1 : Byte), 2, 3])) ∧
    ((saved .writingHeader base).saving = true ∧ (saved .writingHeader base).flashTimer = some 0) ∧
    (({ base with abortedOp := some (.program 0 []) }).abortedOp = some (.program 0 []) ∧ base.saving = false) ∧
    (({ saved (.erasing 0) base with abortedOp := some (.erase 2) }).abortedOp = some (.erase 2) ∧
      ({ saved (.erasing 0) base with abortedOp := some (.erase 2) }).save = .erasing 0) ∧
    (SaveState.ok.inFlight = false ∧ (pended base).running = false ∧ ((pended base).mesh.get .i1).commitPending = true) :=
  ⟨⟨rfl, rfl, rfl⟩, ⟨List.length_replicate, by decide⟩, ⟨rfl, rfl, by decide +kernel⟩, ⟨List.length_replicate, by decide⟩,
    ⟨rfl, by decide +kernel, by decide +kernel⟩, ⟨List.length_replicate, by decide⟩, rfl,
    ⟨rfl, returns_asFound .., returns_asFound .., returns_asFound .., by decide, by decide, by decide⟩, ⟨rfl, rfl⟩,
    ⟨rfl, rfl⟩, ⟨rfl, rfl⟩, rfl, rfl, rfl⟩

/-- A lawful image: what the small part would save. -/
theorem witness_ImageRoundTrip : base.toImage.lawful := by
  refine ⟨by decide, ?_, ?_, ?_, ?_, by decide +kernel⟩
  · intro h
    cases h <;> exact ⟨by decide, by decide, by decide, fun p h => by cases h⟩
  · intro h
    cases h <;> decide
  · intro sl q h
    cases sl <;> cases h
  · intro k hk
    obtain rfl | rfl | rfl | rfl | rfl : k = 0 ∨ k = 1 ∨ k = 2 ∨ k = 3 ∨ k = 4 := by omega
    all_goals exact ⟨by decide +kernel, by decide +kernel⟩

/-- The view of a head with the four seams of 7.12, all settled SHARED. -/
def cornerView (h : Head) : FrameView :=
  { head := h, w := 3840, h := 2160, s := 64, enabled := true, tile := .canvas, depth := .d12, mode := .live
    lift0 := rgbZero, lift1 := rgbZero, bank := [], curves := .cold, decode := [], encode := [], input := .locked
    source := none
    geometry := ⟨some ⟨.vertical, .i0, .i1, 1836, 2258, 1⟩, some ⟨.vertical, .i2, .i3, 1836, 2258, 1⟩,
      some ⟨.horizontal, .i0, .i2, 1033, 1270, 1⟩, some ⟨.horizontal, .i1, .i3, 1033, 1270, 1⟩⟩
    looks := Quad.const (some ⟨.shared, none⟩) }

/-- The view of head 0 on the small raster, its bank the flat mesh, with a source frame and a mode. -/
def litView (x : HeadMode) : FrameView :=
  { cornerView .i0 with
    w := 640
    h := 360
    s := 128
    bank := flatMesh smallSetup .canvas
    mode := x
    source := some smallSource }

theorem witness_PixelStages :
    ((litView .live).s = 64 ∨ (litView .live).s = 128) ∧
    ((litView .live).enabled = true ∧ (litView .live).mode = .live ∧ (litView .live).position 0 0 = some ⟨0, 0⟩ ∧
      (cornerView .i0).position 0 0 = none ∧ (litView .muted).mode = .muted) ∧
    ((litView .live).columns = 6 ∧ 4 * 128 + 127 = 639 ∧ 4 + 1 < 6 ∧
      ({ litView .live with w := 641, s := 64 }).columns = 11 ∧ 9 * 64 + 64 = 640 ∧ 9 + 2 = 11) ∧
    ((litView .live).source = some smallSource ∧ (litView .live).input = .locked ∧
      (cornerView .i0).source = none ∧ smallSource.size.w = 640 ∧ smallSource.size.h = 360 ∧
      16 * 639 + 13 = 65520 * 640 / 4096 ∧ 16 * 359 + 13 = 36848 * 360 / 2304) ∧
    (defaultDecode.getD 63 0 ≤ defaultDecode.getD 64 0 ∧ 1013 = 16 * 63 + 5 ∧ defaultEncode.getD 14 0 ≤
      defaultEncode.getD 15 0 ∧ 3652 = 256 * 14 + 68) ∧
    ((litView (.pattern (.rawGrid 4095))).mode = .pattern (.rawGrid 4095) ∧
      (litView (.pattern (.canvasGrid 4 9))).position 0 0 = some ⟨(0 : Nat), (0 : Nat)⟩ ∧ 4 ∣ 0 / 16) ∧
    (({ base with views := Quad.const (some (litView .live)) }).views.get .i0 = some (litView .live) ∧
      base.views.get .i0 = none) := by
  refine ⟨.inr rfl, ⟨rfl, rfl, by decide +kernel, by decide +kernel, rfl⟩, ⟨by decide, by decide, by decide, by decide,
    by decide, by decide⟩, ⟨rfl, rfl, rfl, rfl, rfl, by decide, by decide⟩, by decide +kernel,
    ⟨rfl, by decide +kernel, by decide⟩, rfl, rfl⟩

theorem witness_WeightOfBands :
    (curveOk (Curves.cold.curve 1) = true ∧ 1836 + 16 ≤ 2258 ∧ 16 * (1836 : Int) ≤ 31000 ∧
      (31000 : Int) ≤ 31001 ∧ (31001 : Int) ≤ 16 * 2258 ∧ 985 * (16 * ((2258 : Int) - 1836)) ≤ (31000 - 16 * 1836) * 4096 ∧
      (31000 - 16 * 1836) * 4096 < (985 + 1) * (16 * ((2258 : Int) - 1836)) ∧ 985 = 64 * 15 + 25) ∧
    ((SeamLook.mk .soloFalling (some ⟨.shared, .soloFalling, 3, 8⟩)).fade = some ⟨.shared, .soloFalling, 3, 8⟩ ∧ 3 < 8) ∧
    (Idx4.i1 = (SeamGeometry.mk .vertical .i0 .i1 1836 2258 1).rising ∧ Idx4.i0 ≠ (SeamGeometry.mk .vertical .i0 .i1 1836 2258 1).rising) ∧
    ((cornerView .i0).geometry.get .i0 = some ⟨.vertical, .i0, .i1, 1836, 2258, 1⟩ ∧
      (cornerView .i0).looks.get .i0 = some ⟨.shared, none⟩ ∧
      SeamGeometry.names ⟨.vertical, .i0, .i1, 1836, 2258, 1⟩ .i0 = true ∧
      16 * (1836 : Int) ≤ (Position.mk 31000 19000).along .vertical ∧
      (Position.mk 31000 19000).along .vertical ≤ 16 * (2258 : Int)) ∧
    (cornerView .i0).weight ⟨31000, 19000⟩ = 977 ∧ (cornerView .i0).weight ⟨0, 0⟩ = 4096 ∧
    (cornerView .i0).weight ⟨31000, 0⟩ = 3499 := by
  refine ⟨⟨by decide +kernel, by decide⟩, ⟨rfl, by decide⟩, ⟨rfl, by decide⟩, ⟨rfl, rfl, rfl, by decide, by decide⟩,
    by decide +kernel, by decide +kernel, by decide +kernel⟩

theorem witness_AttenuatedLightShared :
    (curveOk (Curves.cold.curve bandA.curve) = true ∧ bandA.a + 16 ≤ bandA.b ∧ 16 * (bandA.a : Int) ≤ 1627 ∧
      (1627 : Int) ≤ 16 * bandA.b ∧ (SeamLook.mk .shared none).fade = none) ∧
    (Idx4.i0 ≠ .i1 ∧ (SeamLook.mk .shared none).risingFactor (bandA.ramp .cold 1627) ≤ 4096) ∧
    (cornerView .i0).geometry = (cornerView .i1).geometry ∧
    (∀ i, i ≠ Idx4.i0 → (cornerView .i0).share ⟨31000, 0⟩ i = none ∧ (cornerView .i1).share ⟨31000, 0⟩ i = none) ∧
    (1 * 2048 % 4096 = 2048 ∧ 1 * (4096 - 2048) % 4096 = 2048) := by
  refine ⟨⟨by decide +kernel, by decide, by decide, by decide, rfl⟩, ⟨by decide, by decide +kernel⟩, rfl, ?_, by decide⟩
  intro i hi
  cases i <;> first | exact absurd rfl hi | exact ⟨rfl, rfl⟩

theorem witness_CornerWeights :
    (∀ i, (cornerView i).head = i ∧ (cornerView i).curves = .cold) ∧
    (curveOk (Curves.cold.curve 1) = true) ∧ (1836 + 16 ≤ 2258 ∧ 2258 ≤ 1836 + 1024 ∧ 1033 + 16 ≤ 1270) ∧
    (∀ f, (SeamLook.mk .shared none).fade = some f → f.k < f.n) ∧
    (16 * (1836 : Int) ≤ 31000 ∧ (31000 : Int) ≤ 16 * 2258 ∧ 16 * (1033 : Int) ≤ 19000 ∧ (19000 : Int) ≤ 16 * 1270) :=
  ⟨fun _ => ⟨rfl, rfl⟩, by decide +kernel, by decide, (fun _ h => by cases h), by decide⟩

end Sys2Proof.Tests
end

