-- ==== Sys2Proof/Proofs/Fades.lean ====
section
/-! SUPPORT. The re-derivation of a fading seam (R76): what `Seam.retarget` and `State.putSeam` do, one equation per
branch, and the statement about a fade assembled from them. -/

namespace Sys2Proof.Machine

/-! ## A seam put back -/

/-- A seam that did not settle is put back without a notice (R80). -/
theorem State.putSeam_quiet (s : State) (sl : Slot) (q : Seam) :
    s.putSeam sl (q, false) = { s with seams := s.seams.set sl (some q) } := rfl

/-- A seam that settled is put back with SEAM_SETTLED of its slot (R80). -/
theorem State.putSeam_settled (s : State) (sl : Slot) (q : Seam) :
    s.putSeam sl (q, true) = ({ s with seams := s.seams.set sl (some q) }).withNotices
      (BitVec.ofNat 19 (2 ^ (12 + sl.toNat))) :=
  State.raise_eq (.seamSettled sl) _

/-- The re-derivation of a slot that holds a seam. -/
theorem State.retargetSlot_of_get {s : State} {sl : Slot} {q : Seam} (h : s.seams.get sl = some q) :
    s.retargetSlot sl = s.putSeam sl (q.retarget s.running
      (q.pin.target (s.contributes q.geo.falling) (s.contributes q.geo.rising) q.target)) := by
  simp only [State.retargetSlot, h]

/-! ## The branches of a fade's start and of a re-derivation -/

theorem Seam.startFade_of_zero {q : Seam} {t : SeamMode} (hn : q.fadeLength t = 0) :
    q.startFade t = (q.settleAt t, true) := if_pos hn

theorem Seam.startFade_of_ne_zero {q : Seam} {t : SeamMode} (hn : q.fadeLength t ≠ 0) :
    q.startFade t = ({ q with target := t, fade := some ⟨q.mode, t, 0, q.fadeLength t⟩ }, false) := if_neg hn

theorem Seam.retarget_target (q : Seam) (running : Bool) : q.retarget running q.target = (q, false) := if_pos rfl

/-- The law of the fades, for a seam that is fading (R79, R82). -/
theorem Seam.lawful_iff_of_fade {q : Seam} {f : Fade} {running : Bool} (hf : q.fade = some f) :
    q.lawful running ↔ running = true ∧ f.k < f.n ∧ f.src = q.mode ∧ f.dst = q.target ∧ f.src ≠ f.dst := by
  simp only [Seam.lawful, hf]

section Fading

variable {q : Seam} {f : Fade} {t : SeamMode}

/-- Back to the from mode before the fade has moved: the seam settles there (R76). -/
theorem Seam.retarget_src_of_zero (hf : q.fade = some f) (hchange : t ≠ q.target) (hsrc : t = f.src) (hk : f.k = 0) :
    q.retarget true t = (q.settleAt t, true) := by
  simp [Seam.retarget, hf, hchange, ← hsrc, hk]

/-- Back to the from mode of a fade that has moved: the fade reverses (R76). -/
theorem Seam.retarget_src_of_ne_zero (hf : q.fade = some f) (hchange : t ≠ q.target) (hsrc : t = f.src)
    (hk : f.k ≠ 0) : q.retarget true t =
      ({ q with mode := f.dst, target := t, fade := some ⟨f.dst, f.src, f.n - f.k, f.n⟩ }, false) := by
  simp [Seam.retarget, hf, hchange, ← hsrc, hk]

/-- To the third mode: the seam settles at the to mode and starts a fade from there (R76). -/
theorem Seam.retarget_third (hf : q.fade = some f) (hchange : t ≠ q.target) (hsrc : t ≠ f.src) :
    q.retarget true t = (q.settleAt f.dst).startFade t := by
  simp [Seam.retarget, hf, hchange, hsrc]

end Fading

/-! ## The factor of a reversed fade -/

/-- A reversed fade gives the rising head the factor that the fade gave it: the two modes have swapped, and so have
their weights `n - k` and `k`. -/
theorem SeamLook.risingFactor_reversed (m m' : SeamMode) (f : Fade) (hk : f.k ≤ f.n) (c : Nat) :
    (SeamLook.mk m (some ⟨f.dst, f.src, f.n - f.k, f.n⟩)).risingFactor c =
      (SeamLook.mk m' (some f)).risingFactor c := by
  simp only [SeamLook.risingFactor]
  rw [Nat.sub_sub_self hk, Nat.add_comm]

end Sys2Proof.Machine

namespace Sys2Proof

open Sys2Proof.Machine

/-- Settles O30, branch by branch of R76. Under the law of the fades the seam is RUNNING and the to mode is the
target that stands (R82), so the new target changes nothing exactly where it is the to mode. -/
theorem retargetFading : Obligations.RetargetFading := by
  intro sl q f s hq hf hlaw t n notice settled
  obtain ⟨hrun, hkn, hmode, hdst, hne⟩ := (Seam.lawful_iff_of_fade hf).1 hlaw
  have hslot : s.retargetSlot sl = s.putSeam sl (q.retarget true t) := hrun ▸ State.retargetSlot_of_get hq
  have hback : t = f.src → t ≠ q.target := fun ht => ht ▸ hdst ▸ hne
  refine ⟨fun ht => ?_, fun ht hk => ⟨ht.trans hmode, ?_⟩, fun ht hk => ⟨?_, ?_⟩, fun hs hd hn => ?_, fun hs hd hn => ?_⟩
  · rw [hslot, ht.trans hdst, Seam.retarget_target, State.putSeam_quiet]
  · rw [hslot, Seam.retarget_src_of_zero hf (hback ht) ht hk]
    exact State.putSeam_settled s sl settled
  · rw [hslot, Seam.retarget_src_of_ne_zero hf (hback ht) ht hk, State.putSeam_quiet]
  · exact SeamLook.risingFactor_reversed f.dst q.mode f hkn.le
  · have hstart : (q.settleAt f.dst).startFade t = (settled, true) := Seam.startFade_of_zero hn
    rw [hslot, Seam.retarget_third hf (hdst ▸ hd) hs, hstart, State.putSeam_settled]
  · have hstart : (q.settleAt f.dst).startFade t =
        ({ q with mode := f.dst, target := t, fade := some ⟨f.dst, t, 0, n⟩ }, false) := Seam.startFade_of_ne_zero hn
    rw [hslot, Seam.retarget_third hf (hdst ▸ hd) hs, hstart, State.putSeam_quiet]

end Sys2Proof
end

/-! SUPPORT. The pixel computation from the ramp value to the depth step (R67, R69, R70, R110 to R112, R116): one rule
per stage, and the statements about the weight, the attenuation and the depth step assembled from them. -/

namespace Sys2Proof.Machine

/-! ## Interpolation between two entries that do not fall -/

section Interpolate

variable {a b : Nat}

/-- Where the entries do not fall, the signed interpolation is the one on numbers. -/
theorem interpolate_of_le (hab : a ≤ b) (g half d : Nat) :
    interpolate a b g half d = a + ((b - a) * g + half) / d := by
  obtain ⟨c, rfl⟩ := Nat.exists_eq_add_of_le hab
  have hcast : (a : Int) + (((a + c : Nat) - (a : Int)) * g + half) / d = ((a + (c * g + half) / d : Nat) : Int) := by
    push_cast
    rw [add_sub_cancel_left]
  rw [interpolate, hcast, Int.toNat_natCast, Nat.add_sub_cancel_left]

theorem le_interpolate (hab : a ≤ b) (g half d : Nat) : a ≤ interpolate a b g half d := by
  rw [interpolate_of_le hab]
  exact Nat.le_add_right _ _

theorem interpolate_le {g half d : Nat} (hab : a ≤ b) (hg : g ≤ d) (hhalf : half < d) :
    interpolate a b g half d ≤ b := by
  have hquot : ((b - a) * g + half) / d ≤ b - a := by
    rw [← Nat.lt_succ_iff]
    refine Nat.div_lt_of_lt_mul ?_
    calc (b - a) * g + half < (b - a) * d + d := Nat.add_lt_add_of_le_of_lt (Nat.mul_le_mul_left _ hg) hhalf
      _ = d * (b - a).succ := by rw [Nat.mul_succ, Nat.mul_comm]
  rw [interpolate_of_le hab]
  omega

theorem interpolate_mono {g g' : Nat} (hab : a ≤ b) (hg : g ≤ g') (half d : Nat) :
    interpolate a b g half d ≤ interpolate a b g' half d := by
  rw [interpolate_of_le hab, interpolate_of_le hab]
  gcongr

end Interpolate

/-! ## A curve read at r of 4,096 (R67) -/

/-- What a curve answers at r of 4,096: its last entry at 4,096, and else between entries r div 64 and the next. -/
def curvePoint (curve : List Nat) (r : Nat) : Nat :=
  if r = 4096 then curve.getD 64 0 else interpolate (curve.getD (r / 64) 0) (curve.getD (r / 64 + 1) 0) (r % 64) 32 64

theorem rampValue_eq (curve : List Nat) (width t : Nat) :
    rampValue curve width t = curvePoint curve (t * 4096 / (16 * width)) := rfl

theorem curvePoint_end (curve : List Nat) : curvePoint curve 4096 = curve.getD 64 0 := if_pos rfl

theorem curvePoint_of_lt {curve : List Nat} {r : Nat} (hr : r < 4096) : curvePoint curve r =
    interpolate (curve.getD (r / 64) 0) (curve.getD (r / 64 + 1) 0) (r % 64) 32 64 := if_neg hr.ne

/-- The law of a curve (R62, R64), entry by entry. -/
theorem curveOk_iff {curve : List Nat} : curveOk curve = true ↔ curve.length = 65 ∧ curve.getD 0 0 = 0 ∧
    curve.getD 64 0 = 4096 ∧ ∀ k, k < 64 → curve.getD k 0 ≤ curve.getD (k + 1) 0 := by
  simp only [curveOk, Bool.and_eq_true, decide_eq_true_eq, nonDecreasing_iff, and_assoc]
  refine and_congr_right fun hlen => ?_
  have hfirst : curve.getD 0 1 = curve.getD 0 0 := by simp [List.getD, hlen]
  have hbound : ∀ k, k + 1 < 65 ↔ k < 64 := by omega
  simp only [hfirst, hlen, hbound]

section LawfulCurve

variable {curve : List Nat} (hc : curveOk curve = true)
include hc

theorem curve_step_le {k : Nat} (hk : k < 64) : curve.getD k 0 ≤ curve.getD (k + 1) 0 := (curveOk_iff.1 hc).2.2.2 k hk

theorem curve_entry_mono {j k : Nat} (hjk : j ≤ k) (hk : k ≤ 64) : curve.getD j 0 ≤ curve.getD k 0 := by
  induction k, hjk using Nat.le_induction with
  | base => exact le_rfl
  | succ k _ ih => exact (ih (by omega)).trans (curve_step_le hc hk)

theorem curvePoint_zero : curvePoint curve 0 = 0 := by
  obtain ⟨_, hfirst, _, _⟩ := curveOk_iff.1 hc
  rw [curvePoint_of_lt (by decide), interpolate_of_le (curve_step_le hc (by decide))]
  simpa using hfirst

theorem curvePoint_top : curvePoint curve 4096 = 4096 := by
  obtain ⟨_, _, hlast, _⟩ := curveOk_iff.1 hc
  rw [curvePoint_end, hlast]

theorem entry_le_curvePoint {r : Nat} (hr : r ≤ 4096) : curve.getD (r / 64) 0 ≤ curvePoint curve r := by
  obtain rfl | hlt := hr.eq_or_lt
  · exact (curvePoint_end curve).ge
  · rw [curvePoint_of_lt hlt]
    exact le_interpolate (curve_step_le hc (by omega)) _ _ _

theorem curvePoint_le_next {r : Nat} (hr : r < 4096) : curvePoint curve r ≤ curve.getD (r / 64 + 1) 0 := by
  rw [curvePoint_of_lt hr]
  exact interpolate_le (curve_step_le hc (by omega)) (Nat.mod_lt r (by decide)).le (by decide)

/-- A lawful curve never falls: inside one pair of entries by the interpolation, across pairs by the entries. -/
theorem curvePoint_mono {r r' : Nat} (hrr : r ≤ r') (hr' : r' ≤ 4096) : curvePoint curve r ≤ curvePoint curve r' := by
  obtain rfl | hlt := hrr.eq_or_lt
  · exact le_rfl
  by_cases hsame : r / 64 = r' / 64
  · rw [curvePoint_of_lt (by omega), curvePoint_of_lt (by omega), hsame]
    exact interpolate_mono (curve_step_le hc (by omega)) (by omega) _ _
  · calc curvePoint curve r ≤ curve.getD (r / 64 + 1) 0 := curvePoint_le_next hc (by omega)
      _ ≤ curve.getD (r' / 64) 0 := curve_entry_mono hc (by omega) (by omega)
      _ ≤ curvePoint curve r' := entry_le_curvePoint hc hr'

theorem curvePoint_le {r : Nat} (hr : r ≤ 4096) : curvePoint curve r ≤ 4096 :=
  (curvePoint_mono hc hr le_rfl).trans (curvePoint_top hc).le

/-- The rounded interpolation of R67, at the place f of 64 behind entry k. -/
theorem curvePoint_between {k f : Nat} (hf : f < 64) (hk : k < 64) : curvePoint curve (64 * k + f) =
    curve.getD k 0 + ((curve.getD (k + 1) 0 - curve.getD k 0) * f + 32) / 64 := by
  rw [curvePoint_of_lt (by omega), show (64 * k + f) / 64 = k by omega, show (64 * k + f) % 64 = f by omega,
    interpolate_of_le (curve_step_le hc hk)]

end LawfulCurve

/-! ## The place in a band (R67) -/

/-- The place of a coordinate in a band, of 4,096, truncated. -/
def SeamGeometry.place (g : SeamGeometry) (x : Int) : Nat := (x - 16 * g.a).toNat * 4096 / (16 * (g.b - g.a))

theorem SeamGeometry.ramp_eq (g : SeamGeometry) (curves : Curves) (x : Int) :
    g.ramp curves x = curvePoint (curves.curve g.curve) (g.place x) := rampValue_eq _ _ _

section Band

variable {g : SeamGeometry} {x : Int}

theorem SeamGeometry.place_start (hx : x = 16 * g.a) : g.place x = 0 := by
  simp [SeamGeometry.place, hx]

theorem SeamGeometry.place_stop (hband : g.a + 16 ≤ g.b) (hx : x = 16 * g.b) : g.place x = 4096 := by
  have hwhole : (x - 16 * g.a).toNat = 16 * (g.b - g.a) := by omega
  rw [SeamGeometry.place, hwhole]
  exact Nat.mul_div_cancel_left _ (by omega)

theorem SeamGeometry.place_mono {y : Int} (hxy : x ≤ y) : g.place x ≤ g.place y :=
  Nat.div_le_div_right (Nat.mul_le_mul_right _ (Int.toNat_le_toNat (by omega)))

theorem SeamGeometry.place_le (hband : g.a + 16 ≤ g.b) (hx : x ≤ 16 * g.b) : g.place x ≤ 4096 :=
  (SeamGeometry.place_mono hx).trans (SeamGeometry.place_stop hband rfl).le

/-- The place is the quotient of R67: its multiple of the width is the last one not above the distance times 4,096. -/
theorem SeamGeometry.place_bounds (hband : g.a + 16 ≤ g.b) (hx : 16 * (g.a : Int) ≤ x) :
    (g.place x : Int) * (16 * ((g.b : Int) - g.a)) ≤ (x - 16 * g.a) * 4096 ∧
      (x - 16 * g.a) * 4096 < ((g.place x : Int) + 1) * (16 * ((g.b : Int) - g.a)) := by
  have hdist : (((x - 16 * g.a).toNat : Nat) : Int) = x - 16 * g.a := Int.toNat_of_nonneg (by omega)
  have hwidth : ((16 * (g.b - g.a) : Nat) : Int) = 16 * ((g.b : Int) - g.a) := by omega
  have hbelow := Nat.div_mul_le_self ((x - 16 * g.a).toNat * 4096) (16 * (g.b - g.a))
  have habove := Nat.lt_mul_of_div_lt (Nat.lt_succ_self ((x - 16 * g.a).toNat * 4096 / (16 * (g.b - g.a)))) (by omega)
  rw [← hdist, ← hwidth]
  exact ⟨by exact_mod_cast hbelow, by exact_mod_cast habove⟩

end Band

/-! ## The factor of a head (R69, R70) -/

theorem SeamLook.risingFactor_settled {k : SeamLook} (h : k.fade = none) (c : Nat) :
    k.risingFactor c = k.mode.value c := by
  simp only [SeamLook.risingFactor, h]

theorem SeamLook.risingFactor_fading {k : SeamLook} {f : Fade} (h : k.fade = some f) (c : Nat) :
    k.risingFactor c = (f.src.value c * (f.n - f.k) + f.dst.value c * f.k) / f.n := by
  simp only [SeamLook.risingFactor, h]

theorem SeamMode.value_le {c : Nat} (hc : c ≤ 4096) : ∀ m : SeamMode, m.value c ≤ 4096
  | .shared => hc
  | .soloRising => le_rfl
  | .soloFalling => Nat.zero_le _

/-- A mean of two numbers with weights n - k and k lies between them. -/
theorem mix_between {n k : Nat} (x y : Nat) (hk : k < n) :
    min x y ≤ (x * (n - k) + y * k) / n ∧ (x * (n - k) + y * k) / n ≤ max x y := by
  have hsplit : ∀ z, z * n = z * (n - k) + z * k := fun z => by rw [← Nat.mul_add, Nat.sub_add_cancel hk.le]
  constructor
  · rw [Nat.le_div_iff_mul_le (by omega), hsplit]
    gcongr
    exacts [min_le_left x y, min_le_right x y]
  · refine Nat.div_le_of_le_mul ?_
    rw [Nat.mul_comm n, hsplit]
    gcongr
    exacts [le_max_left x y, le_max_right x y]

theorem SeamLook.risingFactor_between {k : SeamLook} {f : Fade} (h : k.fade = some f) (hk : f.k < f.n) (c : Nat) :
    min (f.src.value c) (f.dst.value c) ≤ k.risingFactor c ∧
      k.risingFactor c ≤ max (f.src.value c) (f.dst.value c) := by
  rw [SeamLook.risingFactor_fading h]
  exact mix_between _ _ hk

theorem SeamLook.risingFactor_le {k : SeamLook} {c : Nat} (hc : c ≤ 4096) (hk : ∀ f, k.fade = some f → f.k < f.n) :
    k.risingFactor c ≤ 4096 := by
  cases hf : k.fade with
  | none => exact SeamLook.risingFactor_settled hf c ▸ k.mode.value_le hc
  | some f =>
    have hmix := (SeamLook.risingFactor_between hf (hk f hf) c).2
    exact hmix.trans (max_le (f.src.value_le hc) (f.dst.value_le hc))

theorem SeamGeometry.factor_rising (g : SeamGeometry) (k : SeamLook) (curves : Curves) (x : Int) :
    g.factor k curves g.rising x = k.risingFactor (g.ramp curves x) := if_pos rfl

theorem SeamGeometry.factor_of_ne_rising {g : SeamGeometry} {h : Head} (hne : h ≠ g.rising) (k : SeamLook)
    (curves : Curves) (x : Int) : g.factor k curves h x = 4096 - k.risingFactor (g.ramp curves x) := if_neg hne.symm

/-- On a lawful curve the ramp value lies in 0..4,096 up to the end of the band. -/
theorem SeamGeometry.ramp_le {g : SeamGeometry} {curves : Curves} {x : Int}
    (hc : curveOk (curves.curve g.curve) = true) (hband : g.a + 16 ≤ g.b) (hx : x ≤ 16 * g.b) :
    g.ramp curves x ≤ 4096 :=
  curvePoint_le hc (SeamGeometry.place_le hband hx)

/-! ## The seams that contain a position (R110, R111) -/

/-- The factor a slot gives the pixel at a position, if its seam contains it. -/
def FrameView.slotFactor (w : FrameView) (q : Position) (sl : Slot) : Option Nat := (w.share q sl).map (·.1)

theorem FrameView.slotFactor_eq_some {w : FrameView} {q : Position} {sl : Slot} {f : Nat} :
    w.slotFactor q sl = some f ↔ ∃ g k, w.geometry.get sl = some g ∧ w.looks.get sl = some k ∧
      g.names w.head = true ∧ 16 * (g.a : Int) ≤ q.along g.orientation ∧ q.along g.orientation ≤ 16 * g.b ∧
      f = g.factor k w.curves w.head (q.along g.orientation) := by
  unfold FrameView.slotFactor FrameView.share
  cases w.geometry.get sl with
  | none => simp
  | some g =>
    cases w.looks.get sl with
    | none => simp
    | some k =>
      simp only [SeamGeometry.holds, Bool.and_eq_true, decide_eq_true_eq, Option.map_if, Option.ite_none_right_eq_some,
        Option.some.injEq, ↓existsAndEq, true_and, and_assoc, eq_comm (a := f)]

/-- The four indexes hold each index once. -/
theorem Idx4.all_perm_cons (i : Idx4) : Idx4.all.Perm (i :: Idx4.all.erase i) := List.perm_cons_erase (Idx4.mem_all i)

theorem Idx4.mem_all_erase {i k : Idx4} : k ∈ Idx4.all.erase i ↔ k ≠ i := by
  rw [List.Nodup.mem_erase_iff (by decide), and_iff_left (Idx4.mem_all k)]

section Answers

variable {α : Type} {s : Idx4 → Option α} {i j : Idx4} {a b : α}

/-- One index answers: its answer is all there is. -/
theorem filterMap_all_of_one (hi : s i = some a) (hrest : ∀ k, k ≠ i → s k = none) :
    Idx4.all.filterMap s = [a] := by
  have hnone : (Idx4.all.erase i).filterMap s = [] :=
    List.filterMap_eq_nil_iff.2 fun k hk => hrest k (Idx4.mem_all_erase.1 hk)
  have hperm := (Idx4.all_perm_cons i).filterMap s
  rw [List.filterMap_cons_some hi, hnone] at hperm
  exact hperm.eq_singleton

/-- Two indexes answer: their two answers, in one order or the other. -/
theorem filterMap_all_of_two (hij : i ≠ j) (hi : s i = some a) (hj : s j = some b)
    (hrest : ∀ k, k ≠ i → k ≠ j → s k = none) :
    Idx4.all.filterMap s = [a, b] ∨ Idx4.all.filterMap s = [b, a] := by
  have hnone : ((Idx4.all.erase i).erase j).filterMap s = [] := by
    refine List.filterMap_eq_nil_iff.2 fun k hk => ?_
    obtain ⟨hkj, hki⟩ := (List.Nodup.mem_erase_iff (List.Nodup.erase i (by decide))).1 hk
    exact hrest k (Idx4.mem_all_erase.1 hki) hkj
  have hperm := ((Idx4.all_perm_cons i).trans
    ((List.perm_cons_erase (Idx4.mem_all_erase.2 hij.symm)).cons i)).filterMap s
  rw [List.filterMap_cons_some hi, List.filterMap_cons_some hj, hnone] at hperm
  exact List.perm_pair.1 hperm

end Answers

/-! ## The weight (R111) -/

theorem FrameView.weight_eq (w : FrameView) (q : Position) :
    w.weight q = weightOf (Idx4.all.filterMap (w.slotFactor q)) := by
  rw [FrameView.weight, FrameView.shares, List.map_filterMap]
  rfl

section Weight

variable {w : FrameView} {q : Position} {sl sl' : Slot} {f f' : Nat}

theorem FrameView.weight_of_none (h : ∀ i, w.slotFactor q i = none) : w.weight q = 4096 := by
  rw [FrameView.weight_eq, List.filterMap_eq_nil_iff.2 fun i _ => h i]
  rfl

theorem FrameView.weight_of_one (h : w.slotFactor q sl = some f) (hrest : ∀ i, i ≠ sl → w.slotFactor q i = none) :
    w.weight q = f := by
  rw [FrameView.weight_eq, filterMap_all_of_one h hrest]
  rfl

theorem FrameView.weight_of_two (hne : sl ≠ sl') (h : w.slotFactor q sl = some f) (h' : w.slotFactor q sl' = some f')
    (hrest : ∀ i, i ≠ sl → i ≠ sl' → w.slotFactor q i = none) : w.weight q = f * f' / 4096 := by
  rw [FrameView.weight_eq]
  obtain horder | horder := filterMap_all_of_two hne h h' hrest
  · rw [horder]
    rfl
  · rw [horder, Nat.mul_comm]
    rfl

end Weight

/-- The truncated product is not above a factor where the other is at most 4,096. -/
theorem product_le_left {f f' : Nat} (hf' : f' ≤ 4096) : f * f' / 4096 ≤ f :=
  Nat.div_le_of_le_mul (by rw [Nat.mul_comm 4096]; exact Nat.mul_le_mul_left f hf')

theorem product_le_right {f f' : Nat} (hf : f ≤ 4096) : f * f' / 4096 ≤ f' := by
  rw [Nat.mul_comm]
  exact product_le_left hf

/-- S5 to S9 on one channel: the weight and the count are the same on all three (R111, R113). -/
theorem FrameView.finish_channel (w : FrameView) (q : Position) (sample : Channel → Nat) (ch : Channel) :
    onChannel (w.finish q sample) ch = w.send (liftStep (w.lift (w.count q) ch) (w.weight q)
      (attenuate (decodeStep w.decode (sample ch)) (w.weight q))) := by
  cases ch <;> rfl

/-! ## The attenuation (R112) -/

/-- The attenuated value is the product over 4,096 rounded half up. -/
theorem attenuate_rounds (lin w : Nat) :
    lin * w < 4096 * attenuate lin w + 2048 ∧ 4096 * attenuate lin w ≤ lin * w + 2048 := by
  unfold attenuate
  omega

theorem attenuate_full (lin : Nat) : attenuate lin 4096 = lin := by
  unfold attenuate
  omega

theorem attenuate_none (lin : Nat) : attenuate lin 0 = 0 := by
  unfold attenuate
  omega

theorem attenuate_le {w : Nat} (lin : Nat) (hw : w ≤ 4096) : attenuate lin w ≤ lin := by
  calc attenuate lin w ≤ attenuate lin 4096 := by unfold attenuate; gcongr
    _ = lin := attenuate_full lin

section Pair

variable {f f' : Nat} (lin : Nat) (hsum : f + f' = 4096)
include hsum

/-- The products of one linear value with two weights that sum to 4,096. -/
theorem products_of_pair : lin * f + lin * f' = 4096 * lin := by
  rw [← Nat.mul_add, hsum, Nat.mul_comm]

/-- Two weights that sum to 4,096 keep the light, or add one by rounding (R112). -/
theorem attenuate_pair : attenuate lin f + attenuate lin f' = lin ∨ attenuate lin f + attenuate lin f' = lin + 1 := by
  have hprod := products_of_pair lin hsum
  unfold attenuate
  omega

/-- The one is added exactly where both products leave the half that rounds up (R112). -/
theorem attenuate_pair_eq_succ_iff : attenuate lin f + attenuate lin f' = lin + 1 ↔
    lin * f % 4096 = 2048 ∧ lin * f' % 4096 = 2048 := by
  have hprod := products_of_pair lin hsum
  unfold attenuate
  omega

end Pair

/-- The two heads of a seam share 4,096 where the rising one has at most that (R69). -/
theorem SeamGeometry.factor_pair {g : SeamGeometry} {k : SeamLook} {curves : Curves} {x : Int}
    (hne : g.falling ≠ g.rising) (hr : k.risingFactor (g.ramp curves x) ≤ 4096) :
    g.factor k curves g.falling x + g.factor k curves g.rising x = 4096 := by
  rw [SeamGeometry.factor_of_ne_rising hne, SeamGeometry.factor_rising, Nat.sub_add_cancel hr]

theorem SeamGeometry.names_falling (g : SeamGeometry) : g.names g.falling = true := by simp [SeamGeometry.names]

theorem SeamGeometry.names_rising (g : SeamGeometry) : g.names g.rising = true := by simp [SeamGeometry.names]

/-- In the band of one seam alone, a head the seam names has the seam's factor for its weight. -/
theorem FrameView.weight_in_band {w : FrameView} {q : Position} {sl : Slot} {g : SeamGeometry} {k : SeamLook}
    (hg : w.geometry.get sl = some g) (hk : w.looks.get sl = some k) (hname : g.names w.head = true)
    (hlow : 16 * (g.a : Int) ≤ q.along g.orientation) (hhigh : q.along g.orientation ≤ 16 * g.b)
    (hrest : ∀ i, i ≠ sl → w.share q i = none) :
    w.weight q = g.factor k w.curves w.head (q.along g.orientation) :=
  FrameView.weight_of_one (FrameView.slotFactor_eq_some.2 ⟨g, k, hg, hk, hname, hlow, hhigh, rfl⟩) fun i hi => by
    rw [FrameView.slotFactor, hrest i hi]
    rfl

/-- The sample is that of the input state and the SHOWN buffer. -/
theorem FrameView.sample_congr {v w : FrameView} (hinput : v.input = w.input) (hsource : v.source = w.source) :
    v.sample = w.sample := by
  funext q ch
  simp only [FrameView.sample, hinput, hsource]

/-! ## The depth step (R116) -/

/-- Adding half of 2h and dividing by 2h gives the nearest number, the half rounded up. -/
theorem div_rounds_half_up {h : Nat} (hh : 0 < h) (x : Nat) :
    x < 2 * h * ((x + h) / (2 * h)) + h ∧ 2 * h * ((x + h) / (2 * h)) ≤ x + h := by
  have hdiv := Nat.div_add_mod (x + h) (2 * h)
  have hmod := Nat.mod_lt (x + h) (show 2 * h > 0 by omega)
  omega

theorem depthStep_d12 (code : Nat) : depthStep .d12 code = code := rfl

theorem depthStep_d10 (code : Nat) : depthStep .d10 code = min 1023 ((code + 2) / 4) := rfl

theorem depthStep_d8 (code : Nat) : depthStep .d8 code = min 255 ((code + 8) / 16) := rfl

/-- Up to 4,093 the rounded quarter is not held. -/
theorem depthStep_d10_of_le {code : Nat} (h : code ≤ 4093) : depthStep .d10 code = (code + 2) / 4 :=
  min_eq_right (by omega)

/-- Up to 4,087 the rounded sixteenth is not held. -/
theorem depthStep_d8_of_le {code : Nat} (h : code ≤ 4087) : depthStep .d8 code = (code + 8) / 16 :=
  min_eq_right (by omega)

/-- Full white through the default tables: the decode table reads 65,535 times 4,095 squared over 4,096 squared, and
the encode table brings it back to 4,094. -/
theorem full_white_code : encodeStep defaultEncode (decodeStep defaultDecode 4095) = 4094 := by decide

end Sys2Proof.Machine

namespace Sys2Proof

open Sys2Proof.Machine

/-- The ramp value of a lawful curve inside its band, as O57 states it (R67). -/
theorem ramp_in_band {g : SeamGeometry} {curves : Curves} {x : Int} (hc : curveOk (curves.curve g.curve) = true)
    (hband : g.a + 16 ≤ g.b) (hlow : 16 * (g.a : Int) ≤ x) (hhigh : x ≤ 16 * g.b) :
    let entry := fun k => (curves.curve g.curve).getD k 0
    let c := g.ramp curves x
    ∃ r : Nat, r ≤ 4096 ∧ r * (16 * ((g.b : Int) - g.a)) ≤ (x - 16 * g.a) * 4096 ∧
      (x - 16 * g.a) * 4096 < (r + 1) * (16 * ((g.b : Int) - g.a)) ∧ (r = 4096 → c = entry 64) ∧
      ∀ k f, r = 64 * k + f → f < 64 → k < 64 →
        c = entry k + ((entry (k + 1) - entry k) * f + 32) / 64 ∧ entry k ≤ c ∧ c ≤ entry (k + 1) := by
  intro entry c
  obtain ⟨hbelow, habove⟩ := SeamGeometry.place_bounds hband hlow
  have hc' : c = curvePoint (curves.curve g.curve) (g.place x) := g.ramp_eq curves x
  refine ⟨g.place x, SeamGeometry.place_le hband hhigh, hbelow, habove, fun hr => ?_, fun k f hr hf hk => ?_⟩
  · rw [hc', hr, curvePoint_end]
  · have hentry : g.place x / 64 = k := by omega
    refine ⟨?_, ?_, ?_⟩
    · rw [hc', hr, curvePoint_between hc hf hk]
    · exact hc' ▸ hentry ▸ entry_le_curvePoint hc (by omega)
    · exact hc' ▸ hentry ▸ curvePoint_le_next hc (by omega)

/-- Settles O57, stage by stage: the ramp value, the mode and the fade, the head's part, and the weight of the slots
whose seams contain the position. -/
theorem weightOfBands : Obligations.WeightOfBands := by
  refine ⟨fun g curves x hc hband hlow hhigh => ?ramp, fun k c => ?look, fun g k curves h x => ?head, fun w q => ?weight⟩
  case ramp =>
    have hle : g.ramp curves x ≤ 4096 := SeamGeometry.ramp_le hc hband hhigh
    refine ⟨ramp_in_band hc hband hlow hhigh, hle, fun hx => ?_, fun hx => ?_, fun y hxy hy => ?_,
      fun k hk => SeamLook.risingFactor_le hle hk⟩
    · exact (congrArg _ (SeamGeometry.place_start hx)).trans (curvePoint_zero hc)
    · exact (congrArg _ (SeamGeometry.place_stop hband hx)).trans (curvePoint_top hc)
    · exact curvePoint_mono hc (SeamGeometry.place_mono hxy) (SeamGeometry.place_le hband hy)
  case look =>
    intro value
    have hvalue : value = SeamMode.value c := by
      funext m
      cases m <;> rfl
    rw [hvalue]
    exact ⟨fun h => SeamLook.risingFactor_settled h c, fun f h =>
      ⟨SeamLook.risingFactor_fading h c, fun hk => SeamLook.risingFactor_between h hk c⟩⟩
  case head => exact ⟨fun h => h ▸ g.factor_rising k curves x, fun h => SeamGeometry.factor_of_ne_rising h k curves x⟩
  case weight =>
    intro gives
    have hgives : ∀ sl f, gives sl f ↔ w.slotFactor q sl = some f := fun _ _ => FrameView.slotFactor_eq_some.symm
    have hnone : ∀ {i}, (∀ f, ¬ gives i f) → w.slotFactor q i = none := fun h =>
      Option.eq_none_iff_forall_ne_some.2 fun f hf => h f ((hgives _ f).2 hf)
    refine ⟨fun h => FrameView.weight_of_none fun i => hnone (h i),
      fun sl f h hrest => FrameView.weight_of_one ((hgives sl f).1 h) fun i hi => hnone fun x => hrest i x hi,
      fun sl sl' f f' hne h h' hrest => ?_, w.finish_channel q⟩
    have hw : w.weight q = f * f' / 4096 := FrameView.weight_of_two hne ((hgives sl f).1 h) ((hgives sl' f').1 h')
      fun i hi hi' => hnone fun x => hrest i x hi hi'
    rw [hw]
    exact ⟨rfl, fun hf hf' => ⟨product_le_left hf', product_le_right hf, (product_le_left hf').trans hf⟩,
      fun hf => by rw [hf, Nat.mul_div_cancel_left _ (by decide)],
      fun hf' => by rw [hf', Nat.mul_div_cancel _ (by decide)]⟩

/-- Settles O58. In one band the two heads' weights are the seam's two factors, which sum to 4,096, and they weigh one
linear value. -/
theorem attenuatedLightShared : Obligations.AttenuatedLightShared := by
  unfold Obligations.AttenuatedLightShared
  intro ranged
  have hle : ∀ {g k c x}, ranged g k c x → k.risingFactor (g.ramp c x) ≤ 4096 := by
    rintro g k c x (⟨hc, hband, -, hhigh, hk⟩ | h)
    · exact SeamLook.risingFactor_le (SeamGeometry.ramp_le hc hband hhigh) hk
    · exact h
  refine ⟨fun lin w hw => ?rounding, FrameView.finish_channel,
    fun g k c x hne hr => SeamGeometry.factor_pair hne (hle hr), ?shared,
    fun lin f hf => attenuate_pair_eq_succ_iff lin (Nat.add_sub_of_le hf)⟩
  case rounding =>
    exact ⟨rfl, attenuate_le lin hw, attenuate_full lin, attenuate_none lin, attenuate_rounds lin w⟩
  case shared =>
    intro v w q sl g k ch hv hw hne hgeo hlooks hcurves hdecode hinput hsource hg hk hlow hhigh hr hrest lin
    have hwv : v.weight q = g.factor k w.curves g.falling (q.along g.orientation) := by
      rw [FrameView.weight_in_band (hgeo ▸ hg) (hlooks ▸ hk) (hv ▸ g.names_falling) hlow hhigh
        fun i hi => (hrest i hi).1, hcurves, hv]
    have hww : w.weight q = g.factor k w.curves g.rising (q.along g.orientation) := by
      rw [FrameView.weight_in_band hg hk (hw ▸ g.names_rising) hlow hhigh fun i hi => (hrest i hi).2, hw]
    refine ⟨by rw [hdecode, FrameView.sample_congr hinput hsource], attenuate_pair lin ?_⟩
    rw [hwv, hww]
    exact SeamGeometry.factor_pair hne (hle hr)

/-- Settles O59: below the hold the two narrow depths divide by 4 and by 16 with the half rounded up.
(The model's function has the name `depthStep`.) -/
theorem depthStep_holds : Obligations.DepthStep := by
  refine ⟨fun code => ⟨depthStep_d12 code, depthStep_d10 code, depthStep_d8 code⟩,
    fun code h => ⟨h, min_le_left _ _, min_le_left _ _⟩, fun code h => ?_, fun code h => ?_,
    ⟨rfl, rfl, rfl, full_white_code⟩, fun w lo => rfl⟩
  · rw [depthStep_d10_of_le h]
    exact div_rounds_half_up (by decide : 0 < 2) code
  · rw [depthStep_d8_of_le h]
    exact div_rounds_half_up (by decide : 0 < 8) code

end Sys2Proof

/-! SUPPORT. What every command keeps of the blocks: a preorder on states, one lemma per kind of write, and the
commands assembled from them. -/

namespace Sys2Proof.Machine

/-! ## The laws of the blocks as a preorder -/

/-- The state with every field blanked that no law of a block reads. -/
def State.core (s : State) : State :=
  { s with
    measured := none, published := none, baud := .b115200, ports := .const .cold, queue := [], inHand := none
    startCode := 0, startPhase := .ended, stored := .none, image := [], abortedOp := none, flashTimer := none
    pending := [] }

/-- The state t keeps every law of the blocks that s has. A law whose fields are the same in both is kept as it
stands. -/
structure Keeps (s t : State) : Prop where
  fades : s.fadesLawful → t.fadesLawful := by exact id
  bands : s.bandsLawful → t.bandsLawful := by exact id
  contributions : s.contributionsLawful → t.contributionsLawful := by exact id
  monitors : s.monitorsLawful → t.monitorsLawful := by exact id
  landings : s.landingsLawful → t.landingsLawful := by exact id
  banks : s.banksLawful → t.banksLawful := by exact id
  claims : s.claimsLawful → t.claimsLawful := by exact id
  tables : s.tablesLawful → t.tablesLawful := by exact id
  curves : s.curvesLawful → t.curvesLawful := by exact id
  counters : s.countersLawful → t.countersLawful := by exact id
  settings : s.settingsLawful → t.settingsLawful := by exact id
  flash : s.flashLawful → t.flashLawful := by exact id
  buffers : s.buffersLawful → t.buffersLawful := by exact id
  views : s.viewsLawful → t.viewsLawful := by exact id

theorem Keeps.refl (s : State) : Keeps s s := {}

theorem Keeps.trans {s t u : State} (h : Keeps s t) (k : Keeps t u) : Keeps s u where
  fades := k.fades ∘ h.fades
  bands := k.bands ∘ h.bands
  contributions := k.contributions ∘ h.contributions
  monitors := k.monitors ∘ h.monitors
  landings := k.landings ∘ h.landings
  banks := k.banks ∘ h.banks
  claims := k.claims ∘ h.claims
  tables := k.tables ∘ h.tables
  curves := k.curves ∘ h.curves
  counters := k.counters ∘ h.counters
  settings := k.settings ∘ h.settings
  flash := k.flash ∘ h.flash
  buffers := k.buffers ∘ h.buffers
  views := k.views ∘ h.views

/-- No law of a block reads a blanked field. -/
theorem Keeps.of_core {s t : State} (h : t.core = s.core) : Keeps s t := by
  have along : ∀ P : State → Prop, P s.core → P t.core := fun P hs => h ▸ hs
  exact ⟨along State.fadesLawful, along State.bandsLawful, along State.contributionsLawful, along State.monitorsLawful,
    along State.landingsLawful, along State.banksLawful, along State.claimsLawful, along State.tablesLawful,
    along State.curvesLawful, along State.countersLawful, along State.settingsLawful, along State.flashLawful,
    along State.buffersLawful, along State.viewsLawful⟩

theorem Keeps.raise (n : Notice) (s : State) : Keeps s (s.raise n) := .of_core rfl

/-! ## Timing -/

theorem Seam.lawful_of_running {q : Seam} {a b : Bool} (hab : a = true → b = true) (h : q.lawful a) : q.lawful b := by
  unfold Seam.lawful at h ⊢
  cases hf : q.fade with
  | none => simpa [hf] using h
  | some f =>
    simp only [hf] at h ⊢
    exact ⟨hab h.1, h.2⟩

/-- Output Timing goes on, or starts. -/
theorem Keeps.run (s : State) (p : Pacing) (f : Bool) (e : Nat) : Keeps s { s with timing := .running p f e } where
  fades h sl q hq := Seam.lawful_of_running (fun _ => rfl) (h sl q hq)
  landings _ hr := nomatch hr
  views h := ⟨fun hr => (nomatch hr), h.2⟩

/-- Output Timing stops: no seam is fading, and a pending commit waits for a save. -/
theorem Keeps.stop (s : State) (hf : ∀ sl q, s.seams.get sl = some q → q.fade = none)
    (hm : s.saving = false → ∀ h, (s.mesh.get h).commitPending = false) :
    Keeps s { s with timing := .stopped, views := Quad.const none } where
  fades h sl q hq := by
    have hl := h sl q hq
    unfold Seam.lawful at hl ⊢
    simpa [hf sl q hq] using hl
  landings _ _ hs := hm hs
  views _ := ⟨fun _ h => Quad.get_const none h, fun _ k _ => Quad.get_const none k⟩

/-! ## Meshes -/

/-- Both banks of a head hold n nodes, each in its range. -/
def HeadMesh.inGrid (n : Nat) (m : HeadMesh) : Prop :=
  m.active.length = n ∧ m.staged.length = n ∧ (∀ x ∈ m.active, x.ok = true) ∧ ∀ x ∈ m.staged, x.ok = true

/-- A head's mesh state is written by a rule that keeps the laws of the meshes; `busy` says that a commit may be
pending, the output being RUNNING or a save in flight. -/
structure HeadMesh.Edit (n : Nat) (busy : Bool) (m m' : HeadMesh) : Prop where
  pending : m'.commitPending = true → m.commitPending = true ∨ busy = true := by exact Or.inl
  banks : m.inGrid n → m'.inGrid n := by exact id
  claims : (m.claim ≠ none → m.lapse = none) → m'.claim ≠ none → m'.lapse = none := by exact id

theorem HeadMesh.Edit.refl (n : Nat) (busy : Bool) (m : HeadMesh) : HeadMesh.Edit n busy m m := {}

theorem Keeps.mesh (s : State) (M : Quad HeadMesh)
    (h : ∀ k, HeadMesh.Edit s.setup.nodes (s.running || s.saving) (s.mesh.get k) (M.get k)) :
    Keeps s { s with mesh := M } where
  landings hl hr hs k := by
    rw [← Bool.not_eq_true]
    intro hp
    rcases (h k).pending hp with hp | hb
    · rw [hl hr hs k] at hp
      cases hp
    · have hr' : s.running = false := hr
      have hs' : s.saving = false := hs
      simp [hr', hs'] at hb
  banks hb k := (h k).banks (hb k)
  claims hc k := (h k).claims (hc k)

theorem Keeps.setMesh (s : State) (h : Head) (m : HeadMesh)
    (he : HeadMesh.Edit s.setup.nodes (s.running || s.saving) (s.mesh.get h) m) : Keeps s (s.setMesh h m) := by
  refine Keeps.mesh s _ fun k => ?_
  rw [Quad.get_set]
  split
  · exact ‹k = h› ▸ he
  · exact .refl _ _ _

/-! ## Seams -/

/-- A seam is changed by a rule that keeps its place and the law of its fade. -/
def Seam.Follows (running : Bool) (q q' : Seam) : Prop := q'.geo = q.geo ∧ (q.lawful running → q'.lawful running)

theorem Seam.Follows.refl (running : Bool) (q : Seam) : q.Follows running q := ⟨rfl, id⟩

/-- Seams are changed in their slots, or deleted. -/
theorem Keeps.seams (s : State) (S : Quad (Option Seam))
    (h : ∀ sl q', S.get sl = some q' →
      ∃ q : Seam, s.seams.get sl = some q ∧ q.Follows s.running q') :
    Keeps s { s with seams := S } where
  fades hl sl q' hq' := by
    obtain ⟨q, hq, _, hlaw⟩ := h sl q' hq'
    exact hlaw (hl sl q hq)
  bands hl sl q' hq' := by
    obtain ⟨q, hq, hgeo, _⟩ := h sl q' hq'
    obtain ⟨hshape, htiles, hclear⟩ := hl sl q hq
    rw [hgeo]
    refine ⟨hshape, htiles, fun sl₂ r' hne hr' => ?_⟩
    obtain ⟨r, hr, hgeo', _⟩ := h sl₂ r' hr'
    rw [hgeo']
    exact hclear sl₂ r hne hr

theorem Keeps.seams_map (s : State) (S : Quad (Option Seam)) (f : Seam → Seam)
    (hS : ∀ sl, S.get sl = (s.seams.get sl).map f) (hf : ∀ q : Seam, q.Follows s.running (f q)) :
    Keeps s { s with seams := S } := by
  refine Keeps.seams s S fun sl q' hq' => ?_
  rw [hS, Option.map_eq_some_iff] at hq'
  obtain ⟨q, hq, rfl⟩ := hq'
  exact ⟨q, hq, hf q⟩

theorem SeamGeometry.overlaps_comm {g k : SeamGeometry} : g.overlaps k ↔ k.overlaps g := and_comm

/-- A seam is placed where its band lies inside both tiles and apart from the other bands. -/
theorem Keeps.placeSeam (s : State) (sl : Slot) (g : SeamGeometry) (pin : Pin) (nOut nIn : Nat) (hshape : g.shaped)
    (htiles : g.inTiles s.tile = true) (hclear : freeOfClash sl g s.geometry = true) :
    Keeps s (s.placeSeam sl g pin nOut nIn) where
  fades hl k q hq := by
    simp only [State.placeSeam, Quad.get_set] at hq
    split at hq
    · cases hq
      exact rfl
    · exact hl k q hq
  bands hl := by
    rw [freeOfClash_iff] at hclear
    have hin : ∀ h, g.names h = true → g.inTile (s.heads.get h).tile = true := by
      intro h hn
      simp only [SeamGeometry.inTiles, Bool.and_eq_true] at htiles
      simp only [SeamGeometry.names, Bool.or_eq_true, beq_iff_eq] at hn
      rcases hn with rfl | rfl
      · exact htiles.1
      · exact htiles.2
    intro k q hq
    simp only [State.placeSeam, Quad.get_set] at hq ⊢
    split at hq
    · cases hq
      refine ⟨hshape, hin, fun k' q' hne hq' => ?_⟩
      subst k
      rw [if_neg hne] at hq'
      exact hclear k' q' hne hq'
    · obtain ⟨h1, h2, h3⟩ := hl k q hq
      refine ⟨h1, h2, fun k' q' hne hq' ho hx => ?_⟩
      split at hq'
      · cases hq'
        rw [SeamGeometry.overlaps_comm]
        subst k'
        obtain ⟨h, ha, hb⟩ := hx
        exact hclear k q (Ne.symm hne) hq ho.symm ⟨h, hb, ha⟩
      · exact h3 k' q' hne hq' ho hx

/-- A re-derived target keeps the law of the fade (R75, R76, R79). -/
theorem Seam.retarget_follows (q : Seam) (running : Bool) (t : SeamMode) :
    q.Follows running (q.retarget running t).1 := by
  have start : ∀ r : Seam, r.mode ≠ t → running = true →
      (r.startFade t).1.geo = r.geo ∧ (r.startFade t).1.lawful running := by
    intro r hr hrun
    unfold Seam.startFade
    split
    · exact ⟨rfl, rfl⟩
    · exact ⟨rfl, hrun, Nat.pos_of_ne_zero ‹_›, rfl, rfl, hr⟩
  unfold Seam.retarget
  split
  · exact .refl _ _
  rename_i hne
  split
  · exact ⟨rfl, fun _ => rfl⟩
  rename_i hrun
  rw [Bool.not_eq_true, Bool.not_eq_false'] at hrun
  cases hf : q.fade with
  | none =>
    dsimp only
    by_cases hm : q.mode = q.target
    · obtain ⟨hg, hl⟩ := start q (fun e => hne (e.symm.trans hm)) hrun
      exact ⟨hg, fun _ => hl⟩
    · refine ⟨by unfold Seam.startFade; split <;> rfl, fun hl => ?_⟩
      unfold Seam.lawful at hl
      rw [hf] at hl
      exact absurd hl hm
  | some f =>
    dsimp only
    split
    · rename_i hsrc
      split
      · exact ⟨rfl, fun _ => rfl⟩
      · refine ⟨rfl, fun hl => ?_⟩
        rw [Seam.lawful_iff_of_fade hf] at hl
        obtain ⟨_, hk, _, hdst, hd⟩ := hl
        exact ⟨hrun, by dsimp only; omega, rfl, hsrc.symm, Ne.symm hd⟩
    · refine ⟨by unfold Seam.startFade; split <;> rfl, fun hl => ?_⟩
      rw [Seam.lawful_iff_of_fade hf] at hl
      exact (start (q.settleAt f.dst) (fun e => hne (e.symm.trans hl.2.2.2.1)) hrun).2

theorem Seam.advance_follows (q : Seam) (running : Bool) : q.Follows running q.advance.1 := by
  unfold Seam.advance
  cases hf : q.fade with
  | none => exact .refl _ _
  | some f =>
    dsimp only
    split
    · exact ⟨rfl, fun _ => rfl⟩
    · refine ⟨rfl, fun hl => ?_⟩
      rw [Seam.lawful_iff_of_fade hf] at hl
      obtain ⟨hr, hk, hs, hd, hne⟩ := hl
      exact ⟨hr, by dsimp only; omega, hs, hd, hne⟩

theorem Seam.endFade_fade (q : Seam) : q.endFade.1.fade = none := by
  unfold Seam.endFade
  cases hf : q.fade with
  | none => exact hf
  | some f => rfl

theorem Seam.endFade_follows (q : Seam) (running : Bool) : q.Follows running q.endFade.1 := by
  unfold Seam.endFade
  cases hf : q.fade with
  | none => exact .refl _ _
  | some f => exact ⟨rfl, fun _ => rfl⟩

/-! ## Head records and monitors -/

/-- A head's record and monitor are written by a rule that keeps the laws of both; the tile stays around the bands
of the seams that name the head. -/
structure Senses (s : State) (h : Head) (r : HeadRecord) (m : Monitor) : Prop where
  record : (s.heads.get h).lawful → r.lawful := by exact id
  tile : ∀ sl q, s.seams.get sl = some q → q.geo.names h = true → q.geo.inTile (s.heads.get h).tile = true →
    q.geo.inTile r.tile = true := by exact fun _ _ _ _ => id
  debounce : ((s.monitor.get h).debounce = none ↔ (s.monitor.get h).line = (s.monitor.get h).sink) →
    (m.debounce = none ↔ m.line = m.sink) := by exact id
  watched : ((s.monitor.get h).presence = .notWatched ↔ (s.heads.get h).period = .off) →
    (m.presence = .notWatched ↔ r.period = .off) := by exact id

theorem State.contributionsLawful_iff (s : State) : s.contributionsLawful ↔
    ∀ h, (s.monitor.get h).contributes = contribution (s.heads.get h).enabled (s.monitor.get h) := by
  refine forall_congr' fun h => ?_
  rw [← contribution_iff]
  exact Bool.eq_iff_iff.symm

/-- Head records and monitors are written, with the contributions that they give. -/
theorem Keeps.sense (s : State) (H : Quad HeadRecord) (M : Quad Monitor)
    (h : ∀ k, Senses s k (H.get k) (M.get k))
    (hc : ∀ k, (s.monitor.get k).contributes = contribution (s.heads.get k).enabled (s.monitor.get k) →
      (M.get k).contributes = contribution (H.get k).enabled (M.get k)) :
    Keeps s { s with heads := H, monitor := M } where
  bands hl sl q hq := by
    obtain ⟨hshape, htiles, hclear⟩ := hl sl q hq
    exact ⟨hshape, fun k hn => (h k).tile sl q hq hn (htiles k hn), hclear⟩
  contributions hl := by
    rw [State.contributionsLawful_iff] at hl ⊢
    exact fun k => hc k (hl k)
  monitors hl k := ⟨(h k).debounce (hl k).1, (h k).watched (hl k).2⟩
  settings hl := ⟨hl.1, fun k => (h k).record (hl.2.1 k), hl.2.2⟩

/-- A head record alone is written, its enabled flag and tile as they were. -/
theorem Keeps.setHead (s : State) (h : Head) (r : HeadRecord) (hr : (s.heads.get h).lawful → r.lawful)
    (he : r.enabled = (s.heads.get h).enabled) (hp : r.period = (s.heads.get h).period)
    (ht : ∀ sl q, s.seams.get sl = some q → q.geo.names h = true → q.geo.inTile (s.heads.get h).tile = true →
      q.geo.inTile r.tile = true) : Keeps s (s.setHead h r) := by
  refine Keeps.sense s _ _ (fun k => ?_) fun k hc => ?_
  · rw [Quad.get_set]
    split
    · rename_i e
      subst e
      exact { record := hr, tile := ht, watched := by rw [hp]; exact id }
    · exact {}
  · rw [Quad.get_set]
    split
    · rename_i e
      subst e
      rw [he]
      exact hc
    · exact hc

/-- What a re-derivation leaves of the seams: each as it was, or retargeted. -/
theorem State.rederive_seams (h : Head) (s : State) : ∃ f : Seam → Seam,
    (∀ q, f q = q ∨ ∃ t, f q = (q.retarget s.running t).1) ∧
      ∀ sl, (s.rederive h).seams.get sl = (s.seams.get sl).map f := by
  unfold State.rederive
  dsimp only
  split
  · exact ⟨id, fun _ => .inl rfl, fun sl => by simp⟩
  · refine ⟨_, fun q => ?_, fun sl => State.retargetHead_get h sl _⟩
    by_cases hn : q.geo.names h = true
    · exact .inr ⟨_, if_pos hn⟩
    · exact .inl (if_neg hn)

/-- A head's record and monitor are written and its contribution re-derived (R93, R94). -/
theorem Keeps.rederive (s : State) (h : Head) (r : HeadRecord) (m : Monitor) (hs : Senses s h r m) :
    Keeps s (({ s with heads := s.heads.set h r, monitor := s.monitor.set h m }).rederive h) := by
  let u : State := { s with
    heads := s.heads.set h r
    monitor := s.monitor.set h { m with contributes := contribution r.enabled m } }
  have hu : Keeps s u := by
    refine Keeps.sense s _ _ (fun k => ?_) fun k hc => ?_
    · simp only [Quad.get_set]
      split
      · rename_i e
        subst e
        exact { record := hs.record, tile := hs.tile, debounce := hs.debounce, watched := hs.watched }
      · exact {}
    · simp only [Quad.get_set]
      split
      · rfl
      · exact hc
  obtain ⟨f, hf, hget⟩ :=
    State.rederive_seams h { s with heads := s.heads.set h r, monitor := s.monitor.set h m }
  have hseams := Keeps.seams_map u _ f hget fun q => by
    rcases hf q with e | ⟨t, e⟩ <;> rw [e]
    · exact .refl _ _
    · exact Seam.retarget_follows q _ t
  refine (hu.trans hseams).trans (Keeps.of_core ?_)
  simp [State.core, u, State.rederive_monitor]

/-- The same where the record is not written. -/
theorem Keeps.rederive_monitor (s : State) (h : Head) (m : Monitor) (hs : Senses s h (s.heads.get h) m) :
    Keeps s (({ s with monitor := s.monitor.set h m }).rederive h) := by
  simpa using Keeps.rederive s h (s.heads.get h) m hs

/-- Monitors are written with every input of the contributions and the laws of the monitors kept. -/
theorem Keeps.monitor (s : State) (M : Quad Monitor) (h : ∀ k, Senses s k (s.heads.get k) (M.get k))
    (hc : ∀ k, (M.get k).contributes = (s.monitor.get k).contributes)
    (hi : ∀ k e, contribution e (M.get k) = contribution e (s.monitor.get k)) :
    Keeps s { s with monitor := M } :=
  Keeps.sense s s.heads M h fun k hk => by rw [hc, hi, hk]

/-! ## The other blocks -/

theorem Keeps.source (s : State) (x : SourceInput)
    (h : s.source.holdTime ≤ 600 ∧ s.source.runCount ≤ 1 → x.holdTime ≤ 600 ∧ x.runCount ≤ 1) :
    Keeps s { s with source := x } where
  settings hl := ⟨hl.1, hl.2.1, h hl.2.2⟩

theorem Keeps.counters_write (s : State) (d r b : Nat)
    (h : s.countersLawful → d ≤ 65535 ∧ r ≤ 65535 ∧ b ≤ 65535) :
    Keeps s { s with dropped := d, repeated := r, broken := b } where
  counters := h

/-- The law of the buffers, of the three buffers alone. -/
def Buffers.lawful (b : Buffers) : Prop :=
  b.toList.countP Buffer.isFilling ≤ 1 ∧ b.toList.countP Buffer.isReady ≤ 1 ∧ b.toList.countP Buffer.isShown ≤ 1 ∧
    ∀ x ∈ b.toList, x.lawful

theorem Keeps.buffers_write (s : State) (b : Buffers) (h : s.buffers.lawful → b.lawful) :
    Keeps s { s with buffers := b } where
  buffers := h

theorem Keeps.takeViews (s : State) (hr : s.running = true) : Keeps s s.takeViews where
  views _ := ⟨fun h => absurd (hr.symm.trans h) (by decide), fun h _ hn => by simp at hn⟩

theorem Keeps.save_write (s : State) (x : SaveState) (f : Flash) (hf : f.pages.length = s.flash.pages.length)
    (hx : x.inFlight = true ∨ s.running = true ∨ s.saving = false ∨ ∀ h, (s.mesh.get h).commitPending = false) :
    Keeps s { s with save := x, flash := f } where
  landings hl hr hs := by
    rcases hx with e | e | e | e
    · exact absurd (e.symm.trans hs) (by decide)
    · exact absurd (e.symm.trans hr) (by decide)
    · exact hl hr e
    · exact e
  flash hl := hf.trans hl

theorem Keeps.tables_write (s : State) (l g : Tables)
    (h : s.tablesLawful → ({ s with live := l, staged := g } : State).tablesLawful) :
    Keeps s { s with live := l, staged := g } where
  tables := h

theorem Keeps.curves_write (s : State) (c : Curves)
    (h : s.curvesLawful → ({ s with curves := c } : State).curvesLawful) : Keeps s { s with curves := c } where
  curves := h

/-- The output setup is written together with the meshes of its grid. -/
theorem Keeps.regrid (s : State) (o : OutputSetup) (M : Quad HeadMesh)
    (ho : 640 ≤ o.w ∧ o.w ≤ 4096 ∧ 360 ≤ o.h ∧ o.h ≤ 2304 ∧ (o.s = 64 ∨ o.s = 128))
    (hp : ∀ k, (M.get k).commitPending = true → (s.mesh.get k).commitPending = true)
    (hb : s.banksLawful → ∀ k, (M.get k).inGrid o.nodes)
    (hc : ∀ k, ((s.mesh.get k).claim ≠ none → (s.mesh.get k).lapse = none) → (M.get k).claim ≠ none →
      (M.get k).lapse = none) : Keeps s { s with setup := o, mesh := M } where
  landings hl hr hs k := by
    rw [← Bool.not_eq_true]
    intro h
    exact absurd ((hl hr hs k).symm.trans (hp k h)) (by decide)
  banks hl k := hb hl k
  claims hl k := hc k (hl k)
  settings hl := ⟨ho, hl.2⟩

end Sys2Proof.Machine

/-! SUPPORT. The shared operations keep the laws of the blocks: time, claims and commits, the source and its buffers,
the output frame start and the stop, the arrival of a packet, the answer. -/

namespace Sys2Proof.Machine

/-! ## Time -/

theorem Keeps.elapse (n : Nat) (s : State) : Keeps s (s.elapse n) := by
  have hrun : (s.timing.elapse n = .stopped ∧ s.timing = .stopped) ∨
      ∃ p f e, s.timing.elapse n = .running p f e ∧ s.running = true := by
    unfold State.running
    cases s.timing with
    | stopped => exact .inl ⟨rfl, rfl⟩
    | running p f e => exact .inr ⟨p, f, e + n, rfl, rfl⟩
  have htiming : Keeps s { s with timing := s.timing.elapse n } := by
    rcases hrun with ⟨h, h'⟩ | ⟨p, f, e, h, _⟩ <;> rw [h]
    · rw [← h']
      exact .refl s
    · exact .run s p f e
  have hmonitor : Keeps { s with timing := s.timing.elapse n }
      { s with timing := s.timing.elapse n, monitor := s.monitor.map (·.elapse n) } := by
    refine Keeps.monitor _ _ (fun k => ?_) (fun k => ?_) fun k e => ?_ <;> rw [Quad.get_map]
    · refine { debounce := ?_, watched := ?_ }
      · simp [Monitor.elapse]
      · show (_ ↔ _) → (_ ↔ _)
        cases h : (s.monitor.get k).presence <;> simp [Monitor.elapse, Presence.elapse, h]
    · rfl
    · unfold contribution
      cases h : (s.monitor.get k).presence <;> simp [Monitor.elapse, Presence.elapse, h]
  have hmesh := Keeps.mesh { s with timing := s.timing.elapse n, monitor := s.monitor.map (·.elapse n) }
    (s.mesh.map (·.elapse n)) fun k => by
      rw [Quad.get_map]
      unfold HeadMesh.elapse
      split
      · exact .refl _ _ _
      · exact { claims := by simp }
  refine ((htiming.trans hmonitor).trans hmesh).trans (Keeps.trans (Keeps.source _
    { s.source with lossTimer := s.source.lossTimer.map (· + n) } id) (Keeps.of_core rfl))

theorem Keeps.elapseTo (l n : Nat) (s : State) : Keeps s (s.elapseTo l n) := .elapse _ s

/-! ## Claims and commits -/

theorem HeadMesh.restartTimer_edit (n : Nat) (b : Bool) (p : Port) (m : HeadMesh) :
    HeadMesh.Edit n b m (m.restartTimer p) := by
  obtain ⟨ha, hs, hc, hp, hl⟩ := m.restartTimer_keeps p
  have hnone : (m.restartTimer p).claim = none ↔ m.claim = none := by
    rw [← Option.map_eq_none_iff (f := Claim.owner), hc, Option.map_eq_none_iff]
  exact { pending := by rw [hp]; exact .inl, banks := by unfold HeadMesh.inGrid; rw [ha, hs]; exact id,
          claims := by rw [hl, ne_eq, ne_eq, hnone]; exact id }

theorem HeadMesh.revert_edit {n : Nat} {b : Bool} {m : HeadMesh} (l : Option Port) :
    HeadMesh.Edit n b m { m.revert with lapse := l } where
  banks h := ⟨h.1, h.1, h.2.2.1, h.2.2.1⟩
  claims _ h := absurd rfl h

/-- A landing, or STAGED made ACTIVE with the claim released. -/
theorem HeadMesh.land_edit {n : Nat} {b c : Bool} {m : HeadMesh} (hc : c = true → m.commitPending = true) :
    HeadMesh.Edit n b m { m with active := m.staged, claim := none, commitPending := c } where
  pending h := .inl (hc h)
  banks h := ⟨h.2.1, h.2.1, h.2.2.2, h.2.2.2⟩
  claims _ h := absurd rfl h

theorem HeadMesh.takeClaim_edit {n : Nat} {b : Bool} {m : HeadMesh} (p : Port) :
    HeadMesh.Edit n b m (m.takeClaim p) := by
  unfold HeadMesh.takeClaim
  split
  · exact .refl _ _ _
  · exact { claims := fun _ _ => rfl }

theorem Keeps.restartClaims (p : Port) (s : State) : Keeps s (s.restartClaims p) :=
  Keeps.mesh s _ fun k => by
    rw [Quad.get_map]
    exact HeadMesh.restartTimer_edit ..

theorem Keeps.touch (h : Option Head) (p : Port) (s : State) : Keeps s (s.touch h p) := by
  cases h with
  | none => exact .refl s
  | some h => exact Keeps.setMesh s h _ (HeadMesh.restartTimer_edit ..)

theorem Keeps.clearLapse (h : Head) (s : State) : Keeps s (s.clearLapse h) :=
  Keeps.setMesh s h _ { claims := fun _ _ => rfl }

theorem Keeps.loseClaim (h : Head) (o : Port) (s : State) : Keeps s (s.loseClaim h o) :=
  (Keeps.setMesh s h _ (HeadMesh.revert_edit (some o))).trans (.raise _ _)

/-- The landings of a pass over the heads: what they leave of the meshes. -/
theorem Keeps.landed (s : State) (M : Quad HeadMesh)
    (h : ∀ k, M.get k = s.mesh.get k ∨ M.get k =
      { s.mesh.get k with active := (s.mesh.get k).staged, claim := none, commitPending := false }) :
    Keeps s { s with mesh := M } :=
  Keeps.mesh s M fun k => by
    rcases h k with e | e <;> rw [e]
    · exact .refl _ _ _
    · exact HeadMesh.land_edit nofun

theorem Keeps.landAll (s : State) : Keeps s s.landAll := by
  refine (Keeps.landed s s.landAll.mesh fun k => ?_).trans (Keeps.of_core (by simp [State.core]))
  rw [State.landAll_get]
  split
  · exact .inr rfl
  · exact .inl rfl

theorem Keeps.commit (h : Head) (s : State) : Keeps s (s.commit h) := by
  refine (Keeps.mesh s (s.commit h).mesh fun k => ?_).trans (Keeps.of_core (by simp [State.core]))
  rw [State.commit_get]
  split
  · rename_i e
    subst e
    split
    · exact { pending := fun _ => .inr (by simpa using ‹_ ∨ _›) }
    · exact HeadMesh.land_edit nofun
  · exact .refl _ _ _

/-! ## Source Input and Frame Buffers -/

theorem Keeps.setInput (x : InputState) (s : State) : Keeps s (s.setInput x) := by
  refine (Keeps.source s (s.setInput x).source ?_).trans (Keeps.of_core (by simp [State.core]))
  rw [State.setInput_source]
  exact id

/-- A change of buffers that makes no two of a state, and brings no frame but lawful ones. -/
theorem Buffers.lawful_map {f : Buffer → Buffer} {b : Buffers}
    (hf : (b.map f).toList.countP Buffer.isFilling ≤ 1) (hr : (b.map f).toList.countP Buffer.isReady ≤ 1)
    (hs : (b.map f).toList.countP Buffer.isShown ≤ 1) (hl : ∀ x, x.lawful → (f x).lawful) (h : b.lawful) :
    (b.map f).lawful := by
  refine ⟨hf, hr, hs, ?_⟩
  have hb := h.2.2.2
  simp only [Buffers.toList, Buffers.map, List.mem_cons, List.not_mem_nil, or_false, forall_eq_or_imp, forall_eq] at hb ⊢
  exact ⟨hl _ hb.1, hl _ hb.2.1, hl _ hb.2.2⟩

/-- Where a map turns buffers of the one test into none but buffers of the other, it makes no more of them. -/
theorem Buffers.countP_map_le {f : Buffer → Buffer} {a c : Buffer → Bool} {b : Buffers}
    (h : ∀ x, a (f x) = true → c x = true) (hb : b.toList.countP c ≤ 1) : (b.map f).toList.countP a ≤ 1 := by
  have e : (b.map f).toList = b.toList.map f := rfl
  rw [e, List.countP_map]
  exact (List.countP_mono_left fun x _ hx => h x hx).trans hb

theorem Buffers.lawful_cut {b : Buffers} (h : b.lawful) : (b.map Buffer.cut).lawful :=
  Buffers.lawful_map (Buffers.countP_map_le (c := Buffer.isFilling)
      (by intro x; cases x <;> simp [Buffer.cut, Buffer.isFilling]) h.1)
    (Buffers.countP_map_le (c := Buffer.isReady) (by intro x; cases x <;> simp [Buffer.cut, Buffer.isReady]) h.2.1)
    (Buffers.countP_map_le (c := Buffer.isShown) (by intro x; cases x <;> simp [Buffer.cut, Buffer.isShown]) h.2.2.1)
    (by intro x hx; cases x <;> trivial) h

theorem Buffers.lawful_clear {b : Buffers} (h : b.lawful) : (b.map Buffer.clear).lawful :=
  Buffers.lawful_map (Buffers.countP_map_le (c := Buffer.isFilling)
      (by intro x; cases x <;> simp [Buffer.clear, Buffer.isFilling]) h.1)
    (Buffers.countP_map_le (c := Buffer.isReady) (by intro x; cases x <;> simp [Buffer.clear, Buffer.isReady]) h.2.1)
    (Buffers.countP_map_le (c := Buffer.isShown) (by intro x; cases x <;> simp [Buffer.clear, Buffer.isShown]) h.2.2.1)
    (by intro x hx; cases x <;> trivial) h

theorem Buffers.lawful_promote {b : Buffers} (h : b.lawful) : (b.map Buffer.promote).lawful :=
  Buffers.lawful_map (Buffers.countP_map_le (c := Buffer.isFilling)
      (by intro x; cases x <;> simp [Buffer.promote, Buffer.isFilling]) h.1)
    (Buffers.countP_map_le (c := Buffer.isReady) (by intro x; cases x <;> simp [Buffer.promote, Buffer.isReady]) h.2.1)
    (Buffers.countP_map_le (c := Buffer.isReady)
        (by intro x; cases x <;> simp [Buffer.promote, Buffer.isReady, Buffer.isShown]) h.2.1)
    (by intro x hx; cases x <;> trivial) h

theorem Buffers.lawful_finish {b : Buffers} {f : SourceFrame} (hf : f.lawful) (h : b.lawful) :
    (b.map (Buffer.finish f)).lawful :=
  Buffers.lawful_map (Buffers.countP_map_le (c := Buffer.isFilling)
      (by intro x; cases x <;> simp [Buffer.finish, Buffer.isFilling]) h.1)
    (Buffers.countP_map_le (c := Buffer.isFilling)
        (by intro x; cases x <;> simp [Buffer.finish, Buffer.isReady, Buffer.isFilling]) h.1)
    (Buffers.countP_map_le (c := Buffer.isShown) (by intro x; cases x <;> simp [Buffer.finish, Buffer.isShown]) h.2.2.1)
    (by intro x hx; cases x <;> trivial) h

/-- The lowest-numbered FREE buffer is filled, or none is FREE. -/
theorem Buffers.fill_cases (b : Buffers) (w : Nat) : (b.fill w = b ∧ .free ∉ b.toList) ∨
    ∃ before rest, b.toList = before ++ .free :: rest ∧ .free ∉ before ∧
      (b.fill w).toList = before ++ .filling w :: rest := by
  obtain ⟨x, y, z⟩ := b
  unfold Buffers.fill Buffers.toList
  by_cases hx : x = .free
  · exact .inr ⟨[], [y, z], by simp [hx]⟩
  by_cases hy : y = .free
  · exact .inr ⟨[x], [z], by simp [hx, hy, Ne.symm hx]⟩
  by_cases hz : z = .free
  · exact .inr ⟨[x, y], [], by simp [hx, hy, hz, Ne.symm hx, Ne.symm hy]⟩
  · exact .inl (by simp [hx, hy, hz, Ne.symm hx, Ne.symm hy, Ne.symm hz])

/-- A fill where no buffer is FILLING. -/
theorem Buffers.lawful_fill {b : Buffers} (w : Nat) (hn : b.toList.countP Buffer.isFilling = 0) (h : b.lawful) :
    (b.fill w).lawful := by
  obtain ⟨-, hr, hs, hl⟩ := h
  rcases b.fill_cases w with ⟨e, -⟩ | ⟨before, rest, hb, -, hf⟩
  · exact e.symm ▸ ⟨hn.le.trans zero_le_one, hr, hs, hl⟩
  simp only [hb, List.countP_append, List.countP_cons, List.mem_append, List.mem_cons] at hn hr hs hl
  simp only [Buffers.lawful, hf, List.countP_append, List.countP_cons, List.mem_append, List.mem_cons]
  refine ⟨?_, hr, hs, fun x hx => ?_⟩
  · simp only [Buffer.isFilling, Bool.false_eq_true, if_false, if_true] at hn ⊢
    omega
  · rcases hx with hx | rfl | hx
    · exact hl x (.inl hx)
    · trivial
    · exact hl x (.inr (.inr hx))

theorem Keeps.cutFrame (s : State) : Keeps s s.cutFrame := by
  rw [State.cutFrame_eq]
  refine (Keeps.buffers_write s _ Buffers.lawful_cut).trans (Keeps.counters_write _ s.dropped s.repeated _ fun h => ?_)
  refine ⟨h.1, h.2.1, ?_⟩
  split
  · exact bump_le _
  · exact h.2.2

theorem Keeps.advanceHold (s : State) : Keeps s s.advanceHold := by
  refine (Keeps.source s s.advanceHold.source ?_).trans (Keeps.of_core (by simp [State.core]))
  rw [State.advanceHold_source]
  split <;> exact id

theorem Keeps.chooseBuffer (s : State) : Keeps s s.chooseBuffer := by
  rcases State.chooseBuffer_cases s with ⟨_, e⟩ | ⟨_, _, e⟩ | ⟨_, _, e⟩ | ⟨_, _, _, e⟩ <;> rw [e]
  · exact Keeps.buffers_write s _ Buffers.lawful_clear
  · exact Keeps.buffers_write s _ Buffers.lawful_promote
  · exact Keeps.counters_write s s.dropped _ s.broken fun h => ⟨h.1, bump_le _, h.2.2⟩
  · exact .refl s

/-! ## The output frame start and the stop -/

theorem Keeps.outputFrameStart (s : State) (hr : s.running = true) : Keeps s s.outputFrameStart := by
  have hfades : Keeps s.landAll (forEach State.advanceFade s.landAll) := by
    refine (Keeps.seams_map s.landAll _ _ (fun sl => State.advanceFades_get sl _) fun q =>
      Seam.advance_follows q _).trans (Keeps.of_core ?_)
    simp [State.core, forEach]
  refine ((((Keeps.landAll s).trans hfades).trans (Keeps.of_core (t := (forEach State.advanceFade s.landAll).publish)
    rfl)).trans (Keeps.advanceHold _)).trans ((Keeps.chooseBuffer _).trans (Keeps.takeViews _ ?_))
  simpa [State.running, forEach] using hr

theorem Keeps.stopOutput (s : State) : Keeps s s.stopOutput := by
  have hland := Keeps.landAll s
  have hfades : Keeps s.landAll (forEach State.endFade s.landAll) := by
    refine (Keeps.seams_map s.landAll _ _ (fun sl => State.endFades_get sl _) fun q =>
      Seam.endFade_follows q _).trans (Keeps.of_core ?_)
    simp [State.core, forEach]
  have hstop := Keeps.stop (forEach State.endFade s.landAll) (fun sl q hq => ?_) fun hs h => ?_
  · refine ((hland.trans hfades).trans hstop).trans (Keeps.of_core ?_)
    have hmesh : ({ s with timing := .stopped, views := Quad.const none } : State).landAll.mesh = s.landAll.mesh :=
      Quad.ext_get fun k => by simp only [State.landAll_get]; rfl
    have hseams : (forEach State.endFade ({ s with timing := .stopped, views := Quad.const none } : State).landAll).seams =
        (forEach State.endFade s.landAll).seams := Quad.ext_get fun k => by simp [State.endFades_get]
    unfold State.stopOutput
    simp only [State.core, State.mk.injEq, hseams]
    simp [forEach, hmesh]
  · rw [State.endFades_get, Option.map_eq_some_iff] at hq
    obtain ⟨r, -, rfl⟩ := hq
    exact Seam.endFade_fade r
  · have hs' : s.saving = false := by simpa [State.saving, forEach] using hs
    have hm : (forEach State.endFade s.landAll).mesh = s.landAll.mesh := by simp [forEach]
    rw [hm, State.landAll_get]
    simp only [hs', and_true]
    split
    · rfl
    · rename_i hc
      simpa using hc

theorem Keeps.frameEvent (p : Pacing) (s : State) : Keeps s (s.frameEvent p) := by
  unfold State.frameEvent
  split
  · exact .refl s
  · exact .stopOutput s
  · exact (Keeps.run s p false 0).trans (.outputFrameStart _ rfl)

theorem Keeps.ownEvent (s : State) : Keeps s s.ownEvent := by
  unfold State.ownEvent
  split
  · exact (Keeps.elapseTo _ _ s).trans (.frameEvent _ _)
  · exact (Keeps.elapseTo _ _ s).trans (.frameEvent _ _)
  · exact (Keeps.elapseTo _ _ s).trans (.frameEvent _ _)
  · exact .refl s

theorem Keeps.startOutput (s : State) : Keeps s s.startOutput := by
  unfold State.startOutput
  split
  · exact (Keeps.run s _ _ _).trans (.outputFrameStart _ rfl)
  · split
    · exact .run s _ _ _
    · exact (Keeps.run s _ _ _).trans (.outputFrameStart _ rfl)

/-! ## Presence, packets and answers -/

theorem Keeps.setPresence (h : Head) (x : Presence) (s : State)
    (hx : (s.monitor.get h).presence = .notWatched ↔ x = .notWatched) : Keeps s (s.setPresence h x) :=
  Keeps.rederive_monitor s h _ { watched := by rw [hx]; exact id }

theorem Keeps.hear (k : Head) (s : State) : Keeps s (s.hear k) := by
  unfold State.hear
  split
  · exact .refl s
  · rename_i n hp
    have one : ∀ i, (s.monitor.set k { s.monitor.get k with presence := .present 0 }).get i = s.monitor.get i ∨
        i = k ∧ (s.monitor.set k { s.monitor.get k with presence := .present 0 }).get i =
          { s.monitor.get k with presence := .present 0 } := by
      intro i
      rw [Quad.get_set]
      by_cases hi : i = k <;> simp [hi]
    refine Keeps.monitor s _ (fun i => ?_) (fun i => ?_) fun i e => ?_ <;> rcases one i with h | ⟨rfl, h⟩ <;> rw [h]
    · exact {}
    · exact { watched := by rw [hp]; simp }
    · simp [contribution, hp]
  · exact Keeps.setPresence k _ s (by simp [*])
  · exact Keeps.setPresence k _ s (by simp [*])

theorem Keeps.setAssembler (p : Port) (a : Assembler) (s : State) : Keeps s (s.setAssembler p a) := .of_core rfl

theorem Keeps.immediate (p : Port) (tag : Byte) (st : Status) (s : State) : Keeps s (s.immediate p tag st) :=
  .of_core (by simp [State.core])

theorem Keeps.takeNext (s : State) : Keeps s s.takeNext := .of_core (by simp [State.core])

theorem Keeps.answered (p : Port) (r : Reply) (s : State) : Keeps s (s.answered p r) :=
  .of_core (by simp [State.core])

theorem Keeps.packetArrives (p : Port) (tag kind : Byte) (body : List Byte) (s : State) :
    Keeps s (s.packetArrives p tag kind body) := by
  obtain ⟨u, hu, h⟩ := State.packetArrives_cases p tag kind body s
  have hsu : Keeps s u := by
    rcases hu with rfl | ⟨k, -, rfl⟩
    · exact .restartClaims p s
    · exact (Keeps.restartClaims p s).trans (.hear k _)
  rcases h with ⟨st, e⟩ | ⟨-, -, e⟩ <;> rw [e]
  · exact hsu.trans (.immediate ..)
  · exact (hsu.trans (Keeps.of_core (t := { u with queue := u.queue ++ [Entry.mk p tag kind body] }) rfl)).trans
      (.takeNext _)

theorem Keeps.receive (p : Port) (bytes : List Byte) (s : State) : Keeps s (s.receive p bytes) :=
  State.receive_keeps (P := Keeps s) (fun _ _ _ h => h.trans (.setAssembler ..)) (fun _ _ _ _ h => h.trans (.immediate ..))
    (fun _ _ _ _ _ h => h.trans (.packetArrives ..)) p bytes s (.refl s)

theorem Keeps.request {k : Kind} {f : Port → List Byte → State → Answer} {p : Port} {tag : Byte} {body : List Byte}
    {s t : State} (hf : ∀ s, Keeps s (f p body s).state) (h : s.request k f p tag body = .next t) : Keeps s t :=
  State.request_keeps (P := Keeps s) (fun _ _ _ h => h.trans (.setAssembler ..))
    (fun _ _ _ _ _ h => h.trans (.packetArrives ..)) (fun _ _ _ h => h.trans (.touch ..))
    (fun _ _ _ h => h.trans (.answered ..)) (fun u hu => hu.trans (hf u)) h (.refl s)

theorem Keeps.requestLong {k : Kind} {f : List Arrival → Port → List Byte → State → LongAnswer} {p : Port} {tag : Byte}
    {body : List Byte} {during : List Arrival} {s t : State} (hf : ∀ s, Keeps s (f during p body s).answer.state)
    (h : s.requestLong k f p tag body during = .next t) : Keeps s t :=
  State.requestLong_keeps (P := Keeps s) (fun _ _ _ h => h.trans (.setAssembler ..))
    (fun _ _ _ _ h => h.trans (.immediate ..)) (fun _ _ _ _ _ h => h.trans (.packetArrives ..))
    (fun _ _ _ h => h.trans (.touch ..)) (fun _ _ _ h => h.trans (.answered ..)) (fun u hu => hu.trans (hf u)) h (.refl s)

theorem Keeps.chunk (p : Port) (count : Nat) (during : List Arrival) (s : State) :
    Keeps s (s.chunk p count during).state :=
  State.chunk_keeps (P := Keeps s) (fun _ _ _ h => h.trans (.setAssembler ..)) (fun _ _ _ _ h => h.trans (.immediate ..))
    (fun _ _ _ _ _ h => h.trans (.packetArrives ..)) p count during s (.refl s)

end Sys2Proof.Machine

/-! SUPPORT. Every request's rule keeps the laws of the blocks. -/

namespace Sys2Proof.Machine

/-! ## Rules that only report -/

theorem answerStatus_state (p : Port) (body : List Byte) (s : State) : (answerStatus p body s).state = s := rfl

theorem answerHeadQuery_state (p : Port) (body : List Byte) (s : State) : (answerHeadQuery p body s).state = s := by
  unfold answerHeadQuery
  split <;> rfl

theorem answerMeshQuery_state (p : Port) (body : List Byte) (s : State) : (answerMeshQuery p body s).state = s := by
  unfold answerMeshQuery
  split <;> rfl

theorem answerMeshRead_state (p : Port) (body : List Byte) (s : State) : (answerMeshRead p body s).state = s := by
  unfold answerMeshRead
  split
  · rfl
  · split
    · rfl
    · dsimp only
      split <;> rfl

theorem answerSeamQuery_state (p : Port) (body : List Byte) (s : State) : (answerSeamQuery p body s).state = s := by
  unfold answerSeamQuery
  split <;> rfl

theorem answerCurveRead_state (p : Port) (body : List Byte) (s : State) : (answerCurveRead p body s).state = s := by
  unfold answerCurveRead
  split <;> rfl

theorem answerTableRead_state (p : Port) (body : List Byte) (s : State) : (answerTableRead p body s).state = s := by
  unfold answerTableRead
  dsimp only
  split
  · rfl
  · split <;> rfl

theorem answerLayoutRead_state (p : Port) (body : List Byte) (s : State) : (answerLayoutRead p body s).state = s := by
  unfold answerLayoutRead
  split <;> rfl

/-- A rule that leaves the state as it is. -/
theorem Keeps.of_eq {s t : State} (h : t = s) : Keeps s t := h ▸ .refl s

/-! ## Notices, RESTART -/

theorem Keeps.answerNoticeRead (p : Port) (body : List Byte) (s : State) : Keeps s (answerNoticeRead p body s).state :=
  .of_core rfl

theorem Keeps.answerNoticeMask (p : Port) (body : List Byte) (s : State) :
    Keeps s (answerNoticeMask p body s).state := by
  unfold Machine.answerNoticeMask
  split <;> exact .of_core rfl

theorem State.abortQueue_core (s : State) : s.abortQueue.core = s.core := by
  have step : ∀ (l : List Entry) (u : State),
      (l.foldl (fun s e => s.enter e.port ⟨e.tag, .aborted, []⟩) u).core = u.core := by
    intro l
    induction l with
    | nil => exact fun _ => rfl
    | cons e l ih => exact fun u => (ih _).trans rfl
  exact step _ _

theorem HeadMesh.restart_edit {n : Nat} {b : Bool} (m : HeadMesh) : HeadMesh.Edit n b m m.restart where
  pending := nofun
  banks h := ⟨h.1, h.1, h.2.2.1, h.2.2.1⟩
  claims _ h := absurd rfl h

theorem Presence.rewatch_watched (x : Presence) : x.rewatch = .notWatched ↔ x = .notWatched := by
  cases x <;> simp [Presence.rewatch]

theorem Keeps.abortSave (s : State) (h : ∀ h, (s.mesh.get h).commitPending = false) : Keeps s s.abortSave := by
  unfold State.abortSave
  split
  · exact (Keeps.save_write s .aborted s.flash rfl (.inr (.inr (.inr h)))).trans (.of_core rfl)
  · exact .refl s

theorem Keeps.restartBlocks (s : State) : Keeps s s.restartBlocks := by
  let s1 : State := { s with monitor := s.monitor.map fun m => { m with presence := m.presence.rewatch } }
  let s2 : State := { s1 with mesh := s.mesh.map HeadMesh.restart }
  let s3 : State := { s2 with seams := s.seams.map fun q => q.map Seam.restart }
  let s4 : State := { s3 with live := s.live, staged := s.live }
  have h1 : Keeps s s1 := by
    refine Keeps.monitor s _ (fun k => ?_) (fun k => ?_) fun k e => ?_ <;> rw [Quad.get_map]
    · exact { watched := by rw [Presence.rewatch_watched]; exact id }
    · unfold contribution
      cases (s.monitor.get k).presence <;> rfl
  have h2 : Keeps s1 s2 := Keeps.mesh s1 _ fun k => by
    rw [Quad.get_map]
    exact HeadMesh.restart_edit _
  have h3 : Keeps s2 s3 := Keeps.seams_map s2 _ Seam.restart (Quad.get_map _ _) fun q => Seam.endFade_follows q _
  have h4 : Keeps s3 s4 :=
    Keeps.tables_write s3 s.live s.live fun h sel hs => ⟨(h sel hs).1, (h sel hs).1, (h sel hs).2.2⟩
  have h5 := Keeps.counters_write s4 0 0 0 fun _ => by decide
  refine (((h1.trans h2).trans (h3.trans h4)).trans h5).trans (Keeps.abortSave _ fun k => ?_)
  show ((s.mesh.map HeadMesh.restart).get k).commitPending = false
  rw [Quad.get_map]
  rfl

theorem Keeps.answerRestart (p : Port) (body : List Byte) (s : State) : Keeps s (answerRestart p body s).state :=
  ((Keeps.of_core s.abortQueue_core).trans (.restartBlocks _)).trans (.of_core rfl)

/-! ## Output Timing -/

/-- The range checks that a setup record has passed (R11). -/
theorem setup?_ranges {l : List Byte} {o : OutputSetup} (h : setup? l = some o) :
    640 ≤ o.w ∧ o.w ≤ 4096 ∧ 360 ≤ o.h ∧ o.h ≤ 2304 ∧ (o.s = 64 ∨ o.s = 128) := by
  unfold setup? at h
  split at h
  · rename_i hr
    split at h
    · cases h
      exact hr
    · cases h
  · cases h

theorem OutputSetup.nodes_congr {o o' : OutputSetup} (h : o.w = o'.w ∧ o.h = o'.h ∧ o.s = o'.s) :
    o.nodes = o'.nodes := by
  obtain ⟨hw, hh, hs⟩ := h
  simp only [OutputSetup.nodes, OutputSetup.columns, OutputSetup.rows, hw, hh, hs]

/-- What a change of the grid leaves of every mesh state. -/
theorem State.resetBanks_mesh (s : State) : (forEach State.resetBanks s).mesh = Quad.ofFn fun k =>
    { s.mesh.get k with
      active := flatMesh s.setup (s.heads.get k).tile
      staged := flatMesh s.setup (s.heads.get k).tile
      claim := none } := by
  refine Quad.ext_get fun k => ?_
  cases k <;> simp [forEach, State.resetBanks]

theorem flatMesh_inGrid (o : OutputSetup) (t : Tile) (m : HeadMesh) (ha : m.active = flatMesh o t)
    (hs : m.staged = flatMesh o t) : m.inGrid o.nodes :=
  ⟨by rw [ha, flatMesh_length], by rw [hs, flatMesh_length], by rw [ha]; exact flatMesh_ok o t,
    by rw [hs]; exact flatMesh_ok o t⟩

theorem Keeps.answerOutputSetup (p : Port) (body : List Byte) (s : State) :
    Keeps s (answerOutputSetup p body s).state := by
  unfold Machine.answerOutputSetup
  split
  · exact .refl s
  split
  · exact .refl s
  split
  · exact .refl s
  rename_i o ho
  dsimp only
  split
  · rename_i hsame
    refine Keeps.regrid s o s.mesh (setup?_ranges ho) (fun _ => id) (fun hb k => ?_) fun _ => id
    rw [OutputSetup.nodes_congr hsame]
    exact hb k
  · refine (Keeps.regrid s o (forEach State.resetBanks { s with setup := o }).mesh (setup?_ranges ho) (fun k => ?_)
      (fun _ k => ?_) fun k => ?_).trans (.of_core rfl) <;> rw [State.resetBanks_mesh, Quad.get_ofFn]
    · exact id
    · exact flatMesh_inGrid o _ _ rfl rfl
    · exact fun _ h => absurd rfl h

theorem Keeps.answerOutputStart (p : Port) (body : List Byte) (s : State) :
    Keeps s (answerOutputStart p body s).state := by
  unfold Machine.answerOutputStart
  split
  · exact .startOutput s
  · exact .run s _ _ _

theorem Keeps.answerOutputStop (p : Port) (body : List Byte) (s : State) :
    Keeps s (answerOutputStop p body s).state := by
  unfold Machine.answerOutputStop
  split
  · exact .refl s
  · exact .run s _ _ _

/-! ## Head Records and Presence Monitor -/

theorem Keeps.answerHeadSetup (p : Port) (body : List Byte) (s : State) : Keeps s (answerHeadSetup p body s).state := by
  unfold Machine.answerHeadSetup
  split
  · exact .refl s
  split
  · rename_i h en d _ _ _
    dsimp only
    split
    · exact .refl s
    split
    · exact .refl s
    rename_i hok hbands
    have hin : ∀ sl q, s.seams.get sl = some q → q.geo.names h = true → q.geo.inTile (tileAt body 2) = true :=
      (s.bandsInside_iff h _).1 (by simpa using hbands)
    have hrec : (s.heads.get h).lawful →
        HeadRecord.lawful { s.heads.get h with enabled := en, tile := tileAt body 2, depth := d } :=
      fun hl => ⟨by simpa using hok, hl.2⟩
    show Keeps s (s.writeHead h _)
    unfold State.writeHead
    split
    · rename_i he
      exact Keeps.setHead s h _ hrec he rfl fun sl q hq hn _ => hin sl q hq hn
    · have := Keeps.rederive s h { s.heads.get h with enabled := en, tile := tileAt body 2, depth := d }
        (s.monitor.get h) { record := hrec, tile := fun sl q hq hn _ => hin sl q hq hn }
      simpa [State.setHead] using this
  · exact .refl s

theorem Pattern.clamp_clamp (q : Pattern) : q.clamp.clamp = q.clamp := by
  cases q <;> simp [Pattern.clamp, rgbMap]

theorem askedMode_clamped {body : List Byte} {m : HeadMode} {c : Bool} (h : askedMode body = some (m, c)) :
    ∀ p, m = .pattern p → p.clamp = p := by
  unfold askedMode at h
  split at h
  · cases h
    exact nofun
  · cases h
    exact nofun
  · split at h
    · cases h
    · cases h
      rintro _ ⟨⟩
      exact Pattern.clamp_clamp _
  · cases h

theorem Keeps.answerHeadMode (p : Port) (body : List Byte) (s : State) : Keeps s (answerHeadMode p body s).state := by
  unfold Machine.answerHeadMode
  split
  · rename_i h m c _ hm
    exact Keeps.setHead s h _ (fun hl => ⟨hl.1, hl.2.1, hl.2.2.1, askedMode_clamped hm⟩) rfl rfl fun _ _ _ _ => id
  · exact .refl s

theorem liftOk_clamp (c : Rgb) : liftOk (rgbMap (min 2047) c) = true := by simp [liftOk, rgbMap]

theorem Keeps.answerLiftSet (p : Port) (body : List Byte) (s : State) : Keeps s (answerLiftSet p body s).state := by
  unfold Machine.answerLiftSet
  split
  · exact .refl s
  split
  · exact .refl s
  · exact Keeps.setHead s _ _ (fun hl => ⟨hl.1, liftOk_clamp _, liftOk_clamp _, hl.2.2.2⟩) rfl rfl fun _ _ _ _ => id

theorem Keeps.answerHeadState (p : Port) (body : List Byte) (s : State) : Keeps s (answerHeadState p body s).state := by
  unfold Machine.answerHeadState
  split
  · dsimp only
    split
    · exact .refl s
    · exact Keeps.rederive_monitor s _ _ {}
  · exact .refl s

/-- The presence state that a new period leaves is NOT_WATCHED exactly where the period is OFF (R88). -/
theorem Presence.withPeriod_watched {old new : Period} {x : Presence} (h : x = .notWatched ↔ old = .off) :
    x.withPeriod old new = .notWatched ↔ new = .off := by
  unfold Presence.withPeriod
  split
  · rename_i e
    rw [h, e]
  split
  · simp [*]
  split
  · simp [*]
  · cases x <;> simp_all

theorem Keeps.answerPresenceSetup (p : Port) (body : List Byte) (s : State) :
    Keeps s (answerPresenceSetup p body s).state := by
  unfold Machine.answerPresenceSetup
  split
  · exact .refl s
  split
  · rename_i h n _ _
    dsimp only
    split
    · rename_i hsame
      refine Keeps.sense s _ s.monitor (fun k => ?_) fun k => ?_ <;> rw [Quad.get_set]
      · split
        · rename_i e
          subst e
          refine { record := id, tile := fun _ _ _ _ => id, watched := fun hw => ?_ }
          have := Presence.withPeriod_watched (new := n) hw
          rwa [hsame] at this
        · exact {}
      · split
        · rename_i e
          subst e
          exact id
        · exact id
    · exact Keeps.rederive s h _ _ { record := id, tile := fun _ _ _ _ => id, watched := Presence.withPeriod_watched }
  · exact .refl s

/-! ## Meshes -/

/-- The examination of a mesh request leaves the state, clears a lapse record, or goes on by the rule. -/
theorem examine_state (p : Port) (index : Nat) (s : State) (rule : Head → Answer) :
    (examine p index s rule).state = s ∨ (∃ h, (examine p index s rule).state = s.clearLapse h) ∨
      ∃ h, Idx4.ofNat? index = some h ∧ examine p index s rule = rule h := by
  unfold examine
  split
  · exact .inl rfl
  · split
    · exact .inr (.inl ⟨_, rfl⟩)
    · exact .inr (.inr ⟨_, ‹_›, rfl⟩)

theorem Keeps.examine {p : Port} {index : Nat} {s : State} {rule : Head → Answer}
    (h : ∀ h, Keeps s (rule h).state) : Keeps s (examine p index s rule).state := by
  rcases examine_state p index s rule with e | ⟨k, e⟩ | ⟨k, -, e⟩ <;> rw [e]
  · exact .refl s
  · exact .clearLapse k s
  · exact h k

theorem Keeps.answerMeshCommit (p : Port) (body : List Byte) (s : State) : Keeps s (answerMeshCommit p body s).state := by
  refine Keeps.examine fun h => ?_
  split
  · split
    · exact .commit h s
    · exact .refl s
  · split <;> exact .refl s
  · exact .refl s
  · exact .refl s

theorem Keeps.answerMeshDiscard (p : Port) (body : List Byte) (s : State) :
    Keeps s (answerMeshDiscard p body s).state := by
  unfold Machine.answerMeshDiscard
  split
  · exact .refl s
  refine Keeps.examine fun h => ?_
  split
  · exact .refl s
  split
  · exact .refl s
  split
  · exact Keeps.setMesh s h _ (HeadMesh.revert_edit _)
  split
  · exact .loseClaim h _ s
  · exact .refl s

theorem Keeps.answerMeshHold (p : Port) (body : List Byte) (s : State) : Keeps s (answerMeshHold p body s).state := by
  unfold Machine.answerMeshHold
  split
  · exact .refl s
  split
  · rename_i h x _ _
    have hset : Keeps s { s with heads := s.heads.set h { s.heads.get h with hold := x } } :=
      Keeps.setHead s h _ id rfl rfl fun _ _ _ _ => id
    refine hset.trans ?_
    show Keeps _ (if _ then _ else _)
    split
    · unfold State.holdDiscard
      split
      · exact .loseClaim h _ _
      · exact .refl _
    · exact .refl _
  · exact .refl s

/-- A write into the STAGED bank that keeps its length and its ranges. -/
theorem HeadMesh.staged_edit {n : Nat} {b : Bool} {m : HeadMesh} {bank : List Node}
    (hl : bank.length = m.staged.length) (hok : (∀ x ∈ m.staged, x.ok = true) → ∀ x ∈ bank, x.ok = true) :
    HeadMesh.Edit n b m { m with staged := bank } where
  banks h := ⟨h.1, hl.trans h.2.1, h.2.2.1, hok h.2.2.2⟩

theorem writeRun_ok : ∀ (l bank : List Node) (start : Nat), (∀ x ∈ bank, x.ok = true) → (∀ x ∈ l, x.ok = true) →
    ∀ x ∈ writeRun bank start l, x.ok = true
  | [], _, _, hb, _ => hb
  | n :: l, bank, start, hb, hl => by
    refine writeRun_ok l (bank.set start n) (start + 1) (fun x hx => ?_) fun x hx => hl x (by simp [hx])
    rcases List.mem_or_eq_of_mem_set hx with h | rfl
    · exact hb x h
    · exact hl x (by simp)

theorem rewriteRun_ok (f : Nat → Node → Node) : ∀ (n k : Nat) (bank : List Node), (∀ x ∈ bank, x.ok = true) →
    ∀ x ∈ (rewriteRun f n k bank).1, x.ok = true
  | 0, _, _, hb => hb
  | n + 1, k, bank, hb => by
    refine rewriteRun_ok f n (k + 1) _ fun x hx => ?_
    rcases List.mem_or_eq_of_mem_set hx with h | rfl
    · exact hb x h
    · exact Node.clamp_ok _

theorem getD_ok {bank : List Node} (h : ∀ x ∈ bank, x.ok = true) (i : Nat) : (bank.getD i Node.none).ok = true := by
  rw [List.getD_eq_getElem?_getD]
  cases hi : bank[i]? with
  | none => rfl
  | some x => exact h x (List.mem_of_getElem? hi)

theorem copyRun_ok {src : List Node} (hs : ∀ x ∈ src, x.ok = true) : ∀ (n a b : Nat) (bank : List Node),
    (∀ x ∈ bank, x.ok = true) → ∀ x ∈ copyRun src n a b bank, x.ok = true
  | 0, _, _, _, hb => hb
  | n + 1, a, b, bank, hb => by
    refine copyRun_ok hs n (a + 1) (b + 1) _ fun x hx => ?_
    rcases List.mem_or_eq_of_mem_set hx with h | rfl
    · exact hb x h
    · exact getD_ok hs a

theorem copyWithin_ok : ∀ (n a b : Nat) (bank : List Node),
    (∀ x ∈ bank, x.ok = true) → ∀ x ∈ copyWithin n a b bank, x.ok = true
  | 0, _, _, _, hb => hb
  | n + 1, a, b, bank, hb => by
    refine copyWithin_ok n (a + 1) (b + 1) _ fun x hx => ?_
    rcases List.mem_or_eq_of_mem_set hx with h | rfl
    · exact hb x h
    · exact getD_ok hb a

theorem Keeps.takeClaim (p : Port) (h : Head) (s : State) : Keeps s (s.setMesh h ((s.mesh.get h).takeClaim p)) :=
  Keeps.setMesh s h _ (HeadMesh.takeClaim_edit p)

theorem Keeps.answerMeshWrite (p : Port) (body : List Byte) (s : State) : Keeps s (answerMeshWrite p body s).state := by
  refine Keeps.examine fun h => ?_
  split
  · exact .refl s
  split
  · exact .refl s
  dsimp only
  split
  · have hwrite := Keeps.setMesh (s.setMesh h ((s.mesh.get h).takeClaim p)) h
      { (s.mesh.get h).takeClaim p with
        staged := writeRun ((s.mesh.get h).takeClaim p).staged (u16 body 1)
          ((nodesAt body 4 (u8 body 3)).map Node.clamp) } (by
        rw [State.setMesh_mesh, Quad.get_set_same]
        refine HeadMesh.staged_edit (writeRun_length _ _ _) fun hok => writeRun_ok _ _ _ hok fun x hx => ?_
        obtain ⟨y, -, rfl⟩ := List.mem_map.1 hx
        exact Node.clamp_ok y)
    simp only [State.setMesh, Quad.set_set] at hwrite
    exact (Keeps.takeClaim p h s).trans hwrite
  · exact .refl s

theorem Keeps.examineLong {p : Port} {index : Nat} {during : List Arrival} {s : State} {rule : Head → LongAnswer}
    (h : ∀ h, Keeps s (rule h).answer.state) : Keeps s (examineLong p index during s rule).answer.state := by
  unfold Machine.examineLong
  split
  · exact .refl s
  split
  · exact .clearLapse _ s
  split
  · exact .refl s
  split
  · exact .refl s
  · exact h _

theorem Keeps.setStaged (h : Head) (bank : List Node) (s : State) (hl : bank.length = (s.mesh.get h).staged.length)
    (hok : (∀ x ∈ (s.mesh.get h).staged, x.ok = true) → ∀ x ∈ bank, x.ok = true) : Keeps s (s.setStaged h bank) :=
  Keeps.setMesh s h _ (HeadMesh.staged_edit hl hok)

theorem Keeps.setStaged_of_banks (h : Head) (bank : List Node) (s : State)
    (hl : bank.length = (s.mesh.get h).staged.length) (hok : s.banksLawful → ∀ x ∈ bank, x.ok = true) :
    Keeps s (s.setStaged h bank) where
  landings hs hr hv k := by
    have := hs hr hv k
    rw [State.setStaged_mesh, Quad.get_set]
    split
    · rename_i e
      exact e ▸ this
    · exact this
  banks hb k := by
    rw [State.setStaged_mesh, Quad.get_set]
    split
    · rename_i e
      subst e
      exact ⟨(hb k).1, hl.trans (hb k).2.1, (hb k).2.2.1, hok hb⟩
    · exact hb k
  claims hs k := by
    rw [State.setStaged_mesh, Quad.get_set]
    split
    · rename_i e
      exact e ▸ hs k
    · exact hs k

theorem Keeps.rewriteChunk (p : Port) (h : Head) (start count : Nat) (f : Nat → Node → Node) (during : List Arrival)
    (s : State) : Keeps s (rewriteChunk p h start count f during s).answer.state :=
  ((Keeps.takeClaim p h s).trans (.chunk p count during _)).trans
    (.setStaged h _ _ (rewriteRun_length ..) (rewriteRun_ok _ _ _ _))

theorem Keeps.answerMeshGenerate (during : List Arrival) (p : Port) (body : List Byte) (s : State) :
    Keeps s (answerMeshGenerate during p body s).answer.state := by
  refine Keeps.examineLong fun h => ?_
  dsimp only
  split
  · exact .rewriteChunk ..
  · exact .refl s

theorem Keeps.answerMeshShift (during : List Arrival) (p : Port) (body : List Byte) (s : State) :
    Keeps s (answerMeshShift during p body s).answer.state := by
  refine Keeps.examineLong fun h => ?_
  dsimp only
  split
  · exact .rewriteChunk ..
  · exact .refl s

theorem HeadMesh.bank?_ok {m : HeadMesh} {n : Nat} (hm : m.inGrid n) (sel : Nat) :
    ∀ x ∈ (m.bank? sel).getD [], x.ok = true := by
  unfold HeadMesh.bank?
  split
  · exact hm.2.2.1
  · exact hm.2.2.2
  · exact nofun

@[simp] theorem State.copied_length (s : State) (h src : Head) (sel n from_ to_ : Nat) :
    (s.copied h src sel n from_ to_).length = (s.mesh.get h).staged.length := by
  unfold State.copied
  split <;> simp

theorem State.copied_ok {s : State} (hb : s.banksLawful) (h src : Head) (sel n from_ to_ : Nat) :
    ∀ x ∈ s.copied h src sel n from_ to_, x.ok = true := by
  unfold State.copied
  split
  · exact copyWithin_ok _ _ _ _ (hb h).2.2.2
  · exact copyRun_ok (HeadMesh.bank?_ok (hb src) sel) _ _ _ _ (hb h).2.2.2

theorem Keeps.answerMeshCopy (during : List Arrival) (p : Port) (body : List Byte) (s : State) :
    Keeps s (answerMeshCopy during p body s).answer.state := by
  refine Keeps.examineLong fun h => ?_
  dsimp only
  split
  · exact .refl s
  split
  · exact ((Keeps.takeClaim p h s).trans (.chunk p _ during _)).trans
      (.setStaged_of_banks _ _ _ (State.copied_length ..) fun hb => State.copied_ok hb _ _ _ _ _ _)
  · exact .refl s

/-! ## Seams, curves, tables, the source -/

theorem SeamFields.check_shaped {f : SeamFields} {g : SeamGeometry} {pin : Pin} (h : f.check = some (g, pin)) :
    g.shaped := by
  unfold SeamFields.check at h
  split at h
  · split at h
    · rename_i hc
      cases h
      exact hc
    · cases h
  · cases h

theorem Keeps.answerSeamDefine (p : Port) (body : List Byte) (s : State) :
    Keeps s (answerSeamDefine p body s).state := by
  unfold Machine.answerSeamDefine
  split
  · exact .refl s
  split
  · rename_i sl g pin _ hc
    split
    · exact .refl s
    split
    · exact .refl s
    · rename_i ht hf
      exact Keeps.placeSeam s sl g pin 2 48 (SeamFields.check_shaped hc) (by simpa using ht) (by simpa using hf)
  · exact .refl s

/-- A seam is changed in its slot. -/
theorem Keeps.setSeam (s : State) (sl : Slot) {q q' : Seam} (hq : s.seams.get sl = some q)
    (h : q.Follows s.running q') : Keeps s { s with seams := s.seams.set sl (some q') } := by
  refine Keeps.seams s _ fun k r hr => ?_
  rw [Quad.get_set] at hr
  split at hr
  · rename_i e
    cases hr
    exact ⟨q, e ▸ hq, h⟩
  · exact ⟨r, hr, .refl _ _⟩

theorem Keeps.deleteSeam (s : State) (sl : Slot) : Keeps s { s with seams := s.seams.set sl none } := by
  refine Keeps.seams s _ fun k r hr => ?_
  rw [Quad.get_set] at hr
  split at hr
  · cases hr
  · exact ⟨r, hr, .refl _ _⟩

theorem Keeps.answerSeamDelete (p : Port) (body : List Byte) (s : State) :
    Keeps s (answerSeamDelete p body s).state := by
  unfold Machine.answerSeamDelete
  split
  · exact .refl s
  split
  · exact .refl s
  · exact .deleteSeam s _

theorem State.putSeam_core (s : State) (sl : Slot) (r : Seam × Bool) :
    (s.putSeam sl r).core = ({ s with seams := s.seams.set sl (some r.1) } : State).core := by
  unfold State.putSeam
  dsimp only
  split <;> rfl

theorem Keeps.retargetSlot (sl : Slot) (s : State) : Keeps s (s.retargetSlot sl) := by
  cases hq : s.seams.get sl with
  | none => exact .of_eq (by simp [State.retargetSlot, hq])
  | some q =>
    rw [State.retargetSlot_of_get hq]
    exact (Keeps.setSeam s sl hq (Seam.retarget_follows q s.running
      (q.pin.target (s.contributes q.geo.falling) (s.contributes q.geo.rising) q.target))).trans
      (.of_core (State.putSeam_core ..))

theorem Keeps.answerSeamPin (p : Port) (body : List Byte) (s : State) : Keeps s (answerSeamPin p body s).state := by
  unfold Machine.answerSeamPin
  split
  · exact .refl s
  split
  · split
    · exact .refl s
    · rename_i pin _ _ _ q hq
      exact (Keeps.setSeam s _ (q' := { q with pin := pin }) hq ⟨rfl, id⟩).trans (.retargetSlot _ _)
  · exact .refl s

theorem Keeps.answerSeamFades (p : Port) (body : List Byte) (s : State) : Keeps s (answerSeamFades p body s).state := by
  unfold Machine.answerSeamFades
  split
  · exact .refl s
  split
  · exact .refl s
  split
  · exact .refl s
  · rename_i hq
    exact Keeps.setSeam s _ hq ⟨rfl, id⟩

theorem Curves.curve_of_gt {k : Nat} (hk : 7 < k) (d : Curves) : d.curve k = [] := by
  unfold Curves.curve
  split <;> first | omega | rfl

/-- A curve written is read back, and every other curve stays. -/
theorem Curves.curve_write {n : Nat} (hn : 3 ≤ n ∧ n ≤ 7) (c : Curves) (l : List Nat) (k : Nat) :
    (c.write n l).curve k = if k = n then l else c.curve k := by
  obtain ⟨h3, h7⟩ := hn
  by_cases hk : k ≤ 7
  · interval_cases n <;> interval_cases k <;> rfl
  · rw [if_neg (by omega), Curves.curve_of_gt (by omega), Curves.curve_of_gt (by omega)]

theorem Keeps.answerCurveWrite (p : Port) (body : List Byte) (s : State) :
    Keeps s (answerCurveWrite p body s).state := by
  unfold Machine.answerCurveWrite
  split
  · exact .refl s
  dsimp only
  split
  · rename_i h
    refine Keeps.curves_write s _ fun hl n h3 h7 => ?_
    show curveOk ((s.curves.write _ _).curve n) = true
    rw [Curves.curve_write ⟨h.1, h.2.1⟩]
    split
    · exact h.2.2
    · exact hl n h3 h7
  · exact .refl s

theorem Tables.table_of_gt {k : Nat} (hk : 4 < k) (d : Tables) : d.table k = [] := by
  unfold Tables.table
  split <;> first | omega | rfl

/-- A table written is read back, and every other table stays. -/
theorem Tables.table_write {sel : Nat} (hs : sel ≤ 4) (t : Tables) (l : List Nat) (k : Nat) :
    (t.write sel l).table k = if k = sel then l else t.table k := by
  by_cases hk : k ≤ 4
  · interval_cases sel <;> interval_cases k <;> rfl
  · rw [if_neg (by omega), Tables.table_of_gt (by omega), Tables.table_of_gt (by omega)]

theorem writeEntries_le {top : Nat} : ∀ (l t : List Nat) (start : Nat), (∀ x ∈ t, x ≤ top) → (∀ x ∈ l, x ≤ top) →
    ∀ x ∈ writeEntries t start l, x ≤ top
  | [], _, _, ht, _ => ht
  | n :: l, t, start, ht, hl => by
    refine writeEntries_le l (t.set start n) (start + 1) (fun x hx => ?_) fun x hx => hl x (by simp [hx])
    rcases List.mem_or_eq_of_mem_set hx with h | rfl
    · exact ht x h
    · exact hl x (by simp)

theorem Keeps.answerTableWrite (p : Port) (body : List Byte) (s : State) :
    Keeps s (answerTableWrite p body s).state := by
  unfold Machine.answerTableWrite
  dsimp only
  split
  · rename_i h
    simp only [Bool.and_eq_true, decide_eq_true_eq] at h
    refine Keeps.tables_write s s.live _ fun hl k hk => ⟨(hl k hk).1, ?_, (hl k hk).2.2⟩
    show tableFits _ ((s.staged.write _ _).table k)
    rw [Tables.table_write h.1]
    obtain ⟨hlen, htop⟩ := (hl k hk).2.1
    split
    · rename_i e
      subst e
      refine ⟨(writeEntries_length ..).trans hlen, writeEntries_le _ _ _ htop fun x hx => ?_⟩
      obtain ⟨y, -, rfl⟩ := List.mem_map.1 hx
      exact min_le_left _ _
    · exact ⟨hlen, htop⟩
  · exact .refl s

theorem Keeps.answerTableCommit (p : Port) (body : List Byte) (s : State) :
    Keeps s (answerTableCommit p body s).state := by
  unfold Machine.answerTableCommit
  dsimp only
  split
  · exact .refl s
  split
  · exact .refl s
  rename_i hsel
  split
  · exact .refl s
  · rename_i hfall
    refine Keeps.tables_write s _ s.staged fun hl k hk => ?_
    show tableFits _ ((s.live.write _ _).table k) ∧ _ ∧ nonDecreasing ((s.live.write _ _).table k) = true
    rw [Tables.table_write (by omega)]
    split
    · rename_i e
      subst e
      exact ⟨(hl _ hk).2.1, (hl _ hk).2.1, (firstFall_eq_none _ _).1 hfall⟩
    · exact hl k hk

theorem Keeps.answerSourceQuery (p : Port) (body : List Byte) (s : State) :
    Keeps s (answerSourceQuery p body s).state := by
  unfold Machine.answerSourceQuery
  split
  · exact .refl s
  · exact .refl s
  · exact Keeps.counters_write s 0 0 0 fun _ => by decide

theorem Keeps.answerHoldSetup (p : Port) (body : List Byte) (s : State) : Keeps s (answerHoldSetup p body s).state := by
  unfold Machine.answerHoldSetup
  split
  · exact .refl s
  · exact Keeps.source s _ fun h => ⟨min_le_right _ _, h.2⟩

/-! ## SAVE -/

theorem Keeps.answerSave (p : Port) (body : List Byte) (s : State) : Keeps s (answerSave p body s).state := by
  unfold Machine.answerSave
  split
  · exact .refl s
  · refine (Keeps.save_write s (.erasing 0) (if s.abortedOp = none then s.issue (.erasing 0) else s.flash) ?_
      (.inl rfl)).trans (.of_core rfl)
    split
    · exact Flash.begin_length s.flash (.erase 0)
    · rfl

end Sys2Proof.Machine

/-! SUPPORT. LAYOUT_APPLY and the apply of an image keep the laws of the blocks. -/

namespace Sys2Proof.Machine

/-! ## Seams placed from a plan -/

/-- Fewer seams clash with no more. -/
theorem freeOfClash_of_subset {sl : Slot} {g : SeamGeometry} {plan now : Slot → Option SeamGeometry}
    (hsub : ∀ k, now k = none ∨ now k = plan k) (h : freeOfClash sl g plan = true) : freeOfClash sl g now = true := by
  unfold freeOfClash at h ⊢
  rw [List.all_eq_true] at h ⊢
  intro k hk
  rcases hsub k with e | e <;> rw [e]
  · simp
  · exact h k hk

theorem seamsKeep_iff {tile : Head → Tile} {plan : Slot → Option SeamGeometry} : seamsKeep tile plan = true ↔
    ∀ sl g, plan sl = some g → g.inTiles tile = true ∧ freeOfClash sl g plan = true := by
  unfold seamsKeep
  rw [List.all_eq_true]
  refine ⟨fun h sl g hg => ?_, fun h sl _ => ?_⟩
  · have := h sl (Idx4.mem_all sl)
    rw [hg] at this
    simpa using this
  · cases hg : plan sl with
    | none => rfl
    | some g => simpa using h sl g hg

/-- A state whose seams are some of a plan that keeps steps 4 and 5 of R57. -/
structure State.Follows (s : State) (plan : Slot → Option SeamGeometry) : Prop where
  subset : ∀ k, s.geometry k = none ∨ s.geometry k = plan k
  keep : seamsKeep s.tile plan = true

/-- A seam of the plan is placed, and the plan is still followed. -/
theorem Keeps.placePlanned {s : State} {plan : Slot → Option SeamGeometry} (h : s.Follows plan) {sl : Slot}
    {g : SeamGeometry} (hg : plan sl = some g) (hshape : g.shaped) (pin : Pin) (a b : Nat) :
    Keeps s (s.placeSeam sl g pin a b) ∧ (s.placeSeam sl g pin a b).Follows plan := by
  obtain ⟨htiles, hclear⟩ := seamsKeep_iff.1 h.keep sl g hg
  refine ⟨Keeps.placeSeam s sl g pin a b hshape htiles (freeOfClash_of_subset h.subset hclear), fun k => ?_, h.keep⟩
  unfold State.geometry State.placeSeam
  rw [Quad.get_set]
  split
  · rename_i e
    exact .inr (e ▸ hg.symm)
  · exact h.subset k

/-! ## The facts of the six presets (R151 to R153) -/

/-- The geometry a preset gives a slot. -/
def Preset.plan (q : Preset) (p : Nat) (sl : Slot) : Option SeamGeometry :=
  (q.seams.find? fun x => x.slot == sl).map (q.geometry p)

/-- The tile a preset gives a head; the canvas where it is not used. -/
def Preset.tileOf (q : Preset) (p : Nat) (h : Head) : Tile := ((q.place? h).map (q.tile p)).getD .canvas

/-- A layout's tiles are in range, and its bands are shaped, lie between used heads inside their tiles, and stand
apart; its seams stand in slots of their own. -/
def Preset.sound (q : Preset) (p : Nat) : Bool :=
  (q.heads.all fun x => (q.tile p x).ok) && seamsKeep (q.tileOf p) (q.plan p) &&
  (q.seams.all fun x =>
    let g := q.geometry p x
    decide (g.falling ≠ g.rising ∧ g.curve ≤ 7 ∧ g.a + 16 ≤ g.b ∧ g.b ≤ g.a + 1024) &&
    (q.place? g.falling).isSome && (q.place? g.rising).isSome && decide (q.plan p x.slot = some g))

set_option maxRecDepth 8000 in
theorem presets_sound : ∀ id ∈ List.range 6, ∀ d ∈ List.range 21, ((preset? id).all fun q => q.sound (4 + d)) = true := by
  decide

theorem preset?_lt {id : Nat} {q : Preset} (h : preset? id = some q) : id < 6 := by
  by_contra hid
  obtain ⟨k, rfl⟩ := Nat.exists_eq_add_of_le (Nat.le_of_not_lt hid)
  rw [Nat.add_comm] at h
  cases h

theorem clampOverlap_range (p : Nat) : 4 ≤ clampOverlap p ∧ clampOverlap p ≤ 24 := by
  unfold clampOverlap
  omega

theorem Preset.sound_of {id : Nat} {q : Preset} (h : preset? id = some q) (o : Nat) :
    q.sound (clampOverlap o) = true := by
  obtain ⟨hlow, hhigh⟩ := clampOverlap_range o
  have := presets_sound id (List.mem_range.2 (preset?_lt h)) (clampOverlap o - 4) (List.mem_range.2 (by omega))
  rw [h, Option.all_some, Nat.add_sub_cancel' hlow] at this
  exact this

/-! ## LAYOUT_APPLY (R156 to R158) -/

/-- What a preset's fitness says of its parts. -/
theorem Preset.sound_iff {q : Preset} {p : Nat} : q.sound p = true ↔
    (∀ x ∈ q.heads, (q.tile p x).ok = true) ∧ seamsKeep (q.tileOf p) (q.plan p) = true ∧
      ∀ x ∈ q.seams, (q.geometry p x).shaped ∧ (q.place? (q.geometry p x).falling).isSome = true ∧
        (q.place? (q.geometry p x).rising).isSome = true ∧ q.plan p x.slot = some (q.geometry p x) := by
  simp only [Preset.sound, SeamGeometry.shaped, Bool.and_eq_true, List.all_eq_true, decide_eq_true_eq, and_assoc]

theorem Preset.place?_mem {q : Preset} {h : Head} {x : PresetHead} (hx : q.place? h = some x) :
    x ∈ q.heads ∧ x.head = h :=
  ⟨List.mem_of_find?_eq_some hx, by simpa using List.find?_some hx⟩

theorem Preset.plan_mem {q : Preset} {p : Nat} {sl : Slot} {g : SeamGeometry} (h : q.plan p sl = some g) :
    ∃ x ∈ q.seams, x.slot = sl ∧ q.geometry p x = g := by
  obtain ⟨x, hx, rfl⟩ := Option.map_eq_some_iff.1 h
  exact ⟨x, List.mem_of_find?_eq_some hx, by simpa using List.find?_some hx, rfl⟩

/-- A head record is written while no slot holds a seam. -/
theorem Keeps.writeHead (s : State) (h : Head) (r : HeadRecord) (hr : (s.heads.get h).lawful → r.lawful)
    (hp : r.period = (s.heads.get h).period) (hn : ∀ sl, s.seams.get sl = none) : Keeps s (s.writeHead h r) := by
  have htile : ∀ sl q, s.seams.get sl = some q → q.geo.names h = true → q.geo.inTile (s.heads.get h).tile = true →
      q.geo.inTile r.tile = true := fun sl q hq => absurd ((hn sl).symm.trans hq) (by simp)
  unfold State.writeHead
  split
  · exact Keeps.setHead s h r hr ‹_› hp htile
  · have := Keeps.rederive s h r (s.monitor.get h) { record := hr, tile := htile, watched := by rw [hp]; exact id }
    simpa [State.setHead] using this

/-- A head record written acts on its own head's record. -/
theorem State.writeHead_heads (s : State) (h : Head) (r : HeadRecord) : (s.writeHead h r).heads = s.heads.set h r := by
  unfold State.writeHead
  split <;> simp

/-- Slots that hold no seam hold none after a head record is written. -/
theorem State.writeHead_empty {s : State} (h : Head) (r : HeadRecord) (hn : ∀ sl, s.seams.get sl = none) (sl : Slot) :
    (s.writeHead h r).seams.get sl = none := by
  unfold State.writeHead
  split
  · exact hn sl
  · obtain ⟨f, -, hf⟩ := State.rederive_seams h (s.setHead h r)
    rw [hf, State.setHead_seams, hn]
    rfl

/-- One head of step one of the apply. -/
def State.layHead (q : Preset) (p : Nat) (h : Head) (s : State) : State :=
  s.writeHead h (q.record p h (s.heads.get h))

theorem State.layHeads_eq (q : Preset) (p : Nat) (s : State) :
    s.layHeads q p = forEach (State.layHead q p) { s with seams := Quad.const none } := rfl

theorem Preset.record_lawful {q : Preset} {p : Nat} (hq : q.sound p = true) {h : Head} {r : HeadRecord}
    (hr : r.lawful) : (q.record p h r).lawful := by
  unfold Preset.record
  split
  · rename_i x hx
    exact ⟨(Preset.sound_iff.1 hq).1 x (Preset.place?_mem hx).1, hr.2⟩
  · exact hr

theorem Preset.record_period (q : Preset) (p : Nat) (h : Head) (r : HeadRecord) : (q.record p h r).period = r.period := by
  unfold Preset.record
  split <;> rfl

/-- What a pass that keeps the empty slots empty keeps, the whole pass keeps. -/
theorem Keeps.layHeads {q : Preset} {p : Nat} (hq : q.sound p = true) (s : State) : Keeps s (s.layHeads q p) := by
  have step : ∀ (h : Head) (u : State), (Keeps s u ∧ ∀ sl, u.seams.get sl = none) →
      Keeps s (u.layHead q p h) ∧ ∀ sl, (u.layHead q p h).seams.get sl = none := fun h u ⟨hk, hn⟩ =>
    ⟨hk.trans (Keeps.writeHead u h _ (Preset.record_lawful hq) (Preset.record_period ..) hn),
      State.writeHead_empty h _ hn⟩
  have start : Keeps s { s with seams := Quad.const none } := Keeps.seams s _ fun sl r hr => by simp at hr
  exact (step .i3 _ (step .i2 _ (step .i1 _ (step .i0 _ ⟨start, fun sl => by simp⟩)))).1

/-- What step one of the apply leaves of the head records. -/
theorem State.layHeads_heads (q : Preset) (p : Nat) (s : State) (h : Head) :
    (s.layHeads q p).heads.get h = q.record p h (s.heads.get h) := by
  rw [State.layHeads_eq]
  cases h <;> simp [forEach, State.layHead, State.writeHead_heads]

theorem State.layHeads_empty (q : Preset) (p : Nat) (s : State) (sl : Slot) : (s.layHeads q p).seams.get sl = none := by
  have start : ∀ k, ({ s with seams := Quad.const none } : State).seams.get k = none := fun k => by simp
  exact State.writeHead_empty _ _ (State.writeHead_empty _ _ (State.writeHead_empty _ _
    (State.writeHead_empty _ _ start))) sl

/-- A plan kept by the tiles of one function is kept by those of another that agrees on the heads it names. -/
theorem seamsKeep_congr {tile tile' : Head → Tile} {plan : Slot → Option SeamGeometry}
    (h : ∀ sl g, plan sl = some g → tile g.falling = tile' g.falling ∧ tile g.rising = tile' g.rising)
    (hk : seamsKeep tile plan = true) : seamsKeep tile' plan = true := by
  rw [seamsKeep_iff] at hk ⊢
  intro sl g hg
  obtain ⟨h1, h2⟩ := h sl g hg
  have := hk sl g hg
  unfold SeamGeometry.inTiles at this ⊢
  rwa [← h1, ← h2]

/-- After step one the slots are empty and the tiles are those of the preset's plan. -/
theorem State.layHeads_follows {q : Preset} {p : Nat} (hq : q.sound p = true) (s : State) :
    (s.layHeads q p).Follows (q.plan p) := by
  obtain ⟨-, hkeep, hseams⟩ := Preset.sound_iff.1 hq
  have used : ∀ h, (q.place? h).isSome = true → q.tileOf p h = (s.layHeads q p).tile h := by
    intro h hh
    obtain ⟨x, hx⟩ := Option.isSome_iff_exists.1 hh
    simp [State.tile, State.layHeads_heads, Preset.record, Preset.tileOf, hx]
  refine ⟨fun k => .inl ?_, seamsKeep_congr (fun sl g hg => ?_) hkeep⟩
  · rw [State.geometry, State.layHeads_empty]
    rfl
  · obtain ⟨x, hx, -, rfl⟩ := Preset.plan_mem hg
    exact ⟨used _ (hseams x hx).2.1, used _ (hseams x hx).2.2.1⟩

theorem Keeps.laySeams {q : Preset} {p : Nat} (hq : q.sound p = true) {s : State} (hs : s.Follows (q.plan p)) :
    Keeps s (s.laySeams q p) := by
  obtain ⟨-, -, hseams⟩ := Preset.sound_iff.1 hq
  have place : ∀ (l : List PresetSeam) (u : State), (∀ x ∈ l, x ∈ q.seams) → u.Follows (q.plan p) →
      Keeps u (l.foldl (fun s x => s.placeSeam x.slot (q.geometry p x) .auto 2 48) u) := by
    intro l
    induction l with
    | nil => exact fun u _ _ => .refl u
    | cons x l ih =>
      intro u hl hu
      obtain ⟨hshape, -, -, hplan⟩ := hseams x (hl x (by simp))
      obtain ⟨hk, hf⟩ := Keeps.placePlanned hu hplan hshape .auto 2 48
      exact hk.trans (ih _ (fun y hy => hl y (by simp [hy])) hf)
  exact place q.seams s (fun _ => id) hs

theorem Keeps.layMesh (h : Head) (s : State) : Keeps s (s.layMesh h) := by
  refine (Keeps.setMesh s h { s.mesh.get h with staged := flatMesh s.setup (s.heads.get h).tile, claim := none }
    { banks := fun hb => ?_, claims := fun _ hn => absurd rfl hn }).trans (.commit h _)
  exact ⟨hb.1, flatMesh_length _ _, hb.2.2.1, flatMesh_ok _ _⟩

theorem Keeps.layMeshes (q : Preset) (s : State) : Keeps s (s.layMeshes q) := by
  have step : ∀ h u, Keeps s u → Keeps s (if (q.place? h).isSome then u.layMesh h else u) := by
    intro h u hu
    split
    · exact hu.trans (.layMesh h u)
    · exact hu
  exact step .i3 _ (step .i2 _ (step .i1 _ (step .i0 _ (.refl s))))

theorem Keeps.answerLayoutApply (p : Port) (body : List Byte) (s : State) :
    Keeps s (answerLayoutApply p body s).state := by
  unfold Machine.answerLayoutApply
  split
  · exact .refl s
  split
  · exact .refl s
  rename_i q hq
  split
  · exact .refl s
  · have hsound := Preset.sound_of hq (u8 body 1)
    exact ((Keeps.layHeads hsound s).trans (.laySeams hsound (State.layHeads_follows hsound s))).trans (.layMeshes q _)

/-! ## What a body that is read holds (R178, R180) -/

theorem readMode_clamped {a b : Nat} {f : PatternFields} {m : HeadMode} (h : readMode a b f = some m) :
    ∀ p, m = .pattern p → p.clamp = p := by
  unfold readMode at h
  split at h
  · cases h
    exact nofun
  · cases h
    exact nofun
  · split at h
    · split at h
      · rename_i hc
        cases h
        rintro _ ⟨⟩
        exact hc
      · cases h
    · cases h
  · cases h

theorem readRecord_lawful {l : List Byte} {r : HeadRecord} (h : readRecord l = some r) : r.lawful := by
  unfold readRecord at h
  split at h
  · rename_i hm _ _
    dsimp only at h
    split at h
    · rename_i hok
      cases h
      simp only [Bool.and_eq_true] at hok
      exact ⟨hok.1.1, hok.1.2, hok.2, readMode_clamped hm⟩
    · cases h
  · cases h

theorem readSlot_lawful {l : List Byte} {q : StoredSeam} (h : readSlot l = some (some q)) :
    q.geo.shaped ∧ q.nOut < 256 ∧ q.nIn < 256 := by
  unfold readSlot at h
  split at h
  · cases h
  · split at h
    · rename_i hc
      cases h
      exact ⟨SeamFields.check_shaped hc, u8_lt _ _, u8_lt _ _⟩
    · cases h
  · cases h

theorem readNodes_length : ∀ (n : Nat) (l : List Byte), (readNodes n l).length = n
  | 0, _ => rfl
  | n + 1, l => by simp [readNodes, readNodes_length n]

theorem readEntries_length : ∀ (n : Nat) (l : List Byte), (readEntries n l).length = n
  | 0, _ => rfl
  | n + 1, l => by simp [readEntries, readEntries_length n]

theorem readEntries_le : ∀ (n : Nat) (l : List Byte), ∀ x ∈ readEntries n l, x ≤ 65535
  | 0, _ => nofun
  | n + 1, l => by
    intro x hx
    rcases List.mem_cons.1 hx with rfl | hx
    · have := u16_lt l 0
      omega
    · exact readEntries_le n _ x hx

theorem quad?_get {α : Type} {f : Idx4 → Option α} {q : Quad α} (h : quad? f = some q) (i : Idx4) :
    f i = some (q.get i) := by
  unfold quad? at h
  split at h
  · cases h
    cases i <;> assumption
  · cases h

theorem tablesOk_iff (t : Tables) : tablesOk t = true ↔ nonDecreasing t.decode = true ∧
    ∀ h, nonDecreasing (t.encode.get h) = true ∧ ∀ x ∈ t.encode.get h, x ≤ 4095 := by
  simp [tablesOk, List.all_eq_true]

/-- The tables of a selector are the decode table and the encode tables of the four heads. -/
theorem Tables.forall_table {P : Nat → List Nat → Prop} {t : Tables} (h0 : P 0 t.decode)
    (h : ∀ k : Head, P (k.toNat + 1) (t.encode.get k)) : ∀ sel, sel ≤ 4 → P sel (t.table sel) := by
  intro sel hs
  interval_cases sel
  exacts [h0, h .i0, h .i1, h .i2, h .i3]

/-- A body that is read holds an image within the widths and ranges of R178 and R180. -/
theorem readImage_lawful {l : List Byte} {m : Image} (h : readImage l = some m) : m.lawful := by
  unfold readImage at h
  split at h
  · cases h
  rename_i o ho
  split at h
  · split at h
    · rename_i heads seams hh hs
      split at h
      · rename_i hok
        cases h
        refine ⟨setup?_ranges ho, fun k => readRecord_lawful (quad?_get hh k), fun k => ?_, fun sl q hq => ?_,
          ?_, hok⟩
        · simp [readItems, readNodes_length]
        · exact readSlot_lawful ((quad?_get hs sl).trans (congrArg some hq))
        · have ht : tablesOk (readItems o heads seams l).tables = true := by
            simp only [Image.ok, Bool.and_eq_true] at hok
            exact hok.1.2
          obtain ⟨-, henc⟩ := (tablesOk_iff _).1 ht
          refine Tables.forall_table ⟨readEntries_length _ _, readEntries_le _ _⟩ fun k => ⟨?_, (henc k).2⟩
          simp [readItems, readEntries_length]
      · cases h
    · cases h
  · cases h

/-! ## The apply of an image (R181) -/

/-- The four re-derivations of the apply write every contribution as its head's inputs give it. -/
theorem State.rederives_monitor (s : State) : (forEach State.rederive s).monitor = Quad.ofFn fun h =>
    { s.monitor.get h with contributes := contribution (s.heads.get h).enabled (s.monitor.get h) } := by
  refine Quad.ext_get fun k => ?_
  cases k <;> simp [forEach, State.rederive_monitor]

theorem State.rederives_empty {s : State} (hn : ∀ sl, s.seams.get sl = none) (sl : Slot) :
    (forEach State.rederive s).seams.get sl = none := by
  have step : ∀ h (u : State), (∀ sl, u.seams.get sl = none) → ∀ sl, (u.rederive h).seams.get sl = none := by
    intro h u hu sl
    obtain ⟨f, -, hf⟩ := State.rederive_seams h u
    rw [hf, hu]
    rfl
  exact step _ _ (step _ _ (step _ _ (step _ _ hn))) sl

/-- The state of the apply before its seams are placed. -/
def State.applied (m : Image) (s : State) : State := (forEach State.rederive (s.applyRecords m)).applyStores m

theorem Period.applied_watched (x : Period) : x.applied = .notWatched ↔ x = .off := by cases x <;> decide

theorem Image.lawful_tables {m : Image} (hm : m.lawful) (sel : Nat) (hs : sel ≤ 4) :
    tableFits (tableTop sel) (m.tables.table sel) ∧ nonDecreasing (m.tables.table sel) = true := by
  obtain ⟨-, -, -, -, hfit, hok⟩ := hm
  have ht : tablesOk m.tables = true := by
    simp only [Image.ok, Bool.and_eq_true] at hok
    exact hok.1.2
  obtain ⟨hd, he⟩ := (tablesOk_iff _).1 ht
  exact ⟨hfit sel hs, Tables.forall_table (P := fun _ l => nonDecreasing l = true) hd (fun k => (he k).1) sel hs⟩

theorem Image.lawful_banks {m : Image} (hm : m.lawful) (h : Head) :
    (m.banks.get h).length = m.setup.nodes ∧ ∀ x ∈ m.banks.get h, x.ok = true := by
  obtain ⟨-, -, hlen, -, -, hok⟩ := hm
  simp only [Image.ok, Bool.and_eq_true, List.all_eq_true, Quad.mem_toList] at hok
  exact ⟨hlen h, hok.1.1.1.1.1 _ ⟨h, rfl⟩⟩

theorem Image.lawful_seams {m : Image} (hm : m.lawful) :
    seamsKeep (fun h => (m.heads.get h).tile) (fun sl => (m.seams.get sl).map (·.geo)) = true := by
  have hok := hm.2.2.2.2.2
  simp only [Image.ok, Bool.and_eq_true] at hok
  exact hok.1.1.1.1.2

theorem Image.lawful_curves {m : Image} (hm : m.lawful) (n : Nat) (h3 : 3 ≤ n) (h7 : n ≤ 7) :
    curveOk (m.curves.curve n) = true := by
  have hok := hm.2.2.2.2.2
  simp only [Image.ok, Bool.and_eq_true, List.all_eq_true, Quad.mem_toList] at hok
  obtain ⟨⟨⟨⟨_, hc3⟩, hc⟩, _⟩, _⟩ := hok
  interval_cases n
  exacts [hc3, hc _ ⟨.i0, rfl⟩, hc _ ⟨.i1, rfl⟩, hc _ ⟨.i2, rfl⟩, hc _ ⟨.i3, rfl⟩]

theorem Image.lawful_holdTime {m : Image} (hm : m.lawful) : m.holdTime ≤ 600 := by
  have hok := hm.2.2.2.2.2
  simp only [Image.ok, Bool.and_eq_true, decide_eq_true_eq] at hok
  exact hok.2

theorem Keeps.applied {m : Image} (hm : m.lawful) (s : State) : Keeps s (s.applied m) := by
  let monitors : Quad Monitor := (forEach State.rederive (s.applyRecords m)).monitor
  have hmonitors : ∀ k, monitors.get k = { s.monitor.get k with
      presence := (m.heads.get k).period.applied
      contributes := contribution (m.heads.get k).enabled
        { s.monitor.get k with presence := (m.heads.get k).period.applied } } := by
    intro k
    simp [monitors, State.rederives_monitor, State.applyRecords]
  let s1 : State := { s with seams := Quad.const none }
  let s2 : State := { s1 with setup := m.setup, mesh := m.banks.map fun b => ⟨b, b, none, false, none⟩ }
  let s3 : State := { s2 with heads := m.heads, monitor := monitors }
  let s4 : State := { s3 with live := m.tables, staged := m.tables }
  let s5 : State := { s4 with curves := m.curves }
  let s6 : State := { s5 with source := { s.source with holdTime := m.holdTime } }
  have h1 : Keeps s s1 := Keeps.seams s _ fun sl r hr => by simp at hr
  have h2 : Keeps s1 s2 := by
    refine Keeps.regrid s1 m.setup _ hm.1 (fun k => ?_) (fun _ k => ?_) fun k => ?_ <;> rw [Quad.get_map]
    · exact nofun
    · obtain ⟨hl, hok⟩ := Image.lawful_banks hm k
      exact ⟨hl, hl, hok, hok⟩
    · exact fun _ h => absurd rfl h
  have h3 : Keeps s2 s3 := by
    refine Keeps.sense s2 _ _ (fun k => ?_) fun k _ => ?_
    · rw [hmonitors]
      exact { record := fun _ => hm.2.1 k, tile := fun sl r hr => by simp [s2, s1] at hr,
              watched := fun _ => Period.applied_watched _ }
    · rw [hmonitors]
      rfl
  have h4 : Keeps s3 s4 := Keeps.tables_write s3 _ _ fun _ sel hs =>
    ⟨(Image.lawful_tables hm sel hs).1, (Image.lawful_tables hm sel hs)⟩
  have h5 : Keeps s4 s5 := Keeps.curves_write s4 _ fun _ => Image.lawful_curves hm
  have h6 : Keeps s5 s6 := Keeps.source s5 _ fun h => ⟨Image.lawful_holdTime hm, h.2⟩
  refine ((h1.trans (h2.trans h3)).trans (h4.trans (h5.trans h6))).trans (.of_core ?_)
  have hseams : (forEach State.rederive (s.applyRecords m)).seams = Quad.const none := Quad.ext_get fun sl => by
    rw [State.rederives_empty (fun sl => by simp [State.applyRecords])]
    simp
  simp [State.core, State.applied, State.applyStores, s6, s5, s4, s3, s2, s1, monitors, hseams]
  simp [forEach, State.applyRecords]

theorem State.applied_follows {m : Image} (hm : m.lawful) (s : State) :
    (s.applied m).Follows fun sl => (m.seams.get sl).map (·.geo) := by
  refine ⟨fun k => .inl ?_, ?_⟩
  · have : (s.applied m).seams.get k = none :=
      State.rederives_empty (s := s.applyRecords m) (fun sl => by simp [State.applyRecords]) k
    rw [State.geometry, this]
    rfl
  · have : (s.applied m).tile = fun h => (m.heads.get h).tile := by
      funext h
      simp [State.tile, State.applied, State.applyStores, forEach, State.applyRecords]
    rw [this]
    exact Image.lawful_seams hm

theorem Keeps.applyImage {m : Image} (hm : m.lawful) (s : State) : Keeps s (s.applyImage m) := by
  let plan : Slot → Option SeamGeometry := fun sl => (m.seams.get sl).map (·.geo)
  have step : ∀ (sl : Slot) (u : State), (Keeps s u ∧ u.Follows plan) →
      Keeps s (u.applySeam m sl) ∧ (u.applySeam m sl).Follows plan := by
    intro sl u ⟨hk, hf⟩
    unfold State.applySeam
    split
    · rename_i r hr
      have hplan : plan sl = some r.geo := by simp [plan, hr]
      obtain ⟨hk', hf'⟩ := Keeps.placePlanned hf hplan (hm.2.2.2.1 sl r hr).1 r.pin r.nOut r.nIn
      exact ⟨hk.trans hk', hf'⟩
    · exact ⟨hk, hf⟩
  exact (step _ _ (step _ _ (step _ _ (step _ _ ⟨Keeps.applied hm s, State.applied_follows hm s⟩)))).1

end Sys2Proof.Machine

/-! SUPPORT. The laws of the blocks hold at the cold-reset values; the cold start, the source link, the expiries and a
save keep them; so every command and every step does. -/

namespace Sys2Proof.Machine

/-! ## The cold-reset values -/

set_option maxRecDepth 8000 in
theorem defaultDecode_fits : tableFits 65535 defaultDecode ∧ nonDecreasing defaultDecode = true := by
  unfold tableFits
  decide

set_option maxRecDepth 8000 in
theorem defaultEncode_fits : tableFits 4095 defaultEncode ∧ nonDecreasing defaultEncode = true := by
  unfold tableFits
  decide

theorem Tables.cold_fits : ∀ sel, sel ≤ 4 →
    tableFits (tableTop sel) (Tables.cold.table sel) ∧ nonDecreasing (Tables.cold.table sel) = true :=
  Tables.forall_table (P := fun sel l => tableFits (tableTop sel) l ∧ nonDecreasing l = true) defaultDecode_fits
    fun k => by cases k <;> exact defaultEncode_fits

theorem linearCurve_ok : curveOk linearCurve = true := by decide

theorem HeadRecord.cold_lawful (e : Bool) : (HeadRecord.cold e).lawful :=
  ⟨rfl, rfl, rfl, nofun⟩

theorem Monitor.cold_debounce (line : Bool) :
    (Monitor.cold line).debounce = none ↔ (Monitor.cold line).line = (Monitor.cold line).sink := by
  cases line <;> simp [Monitor.cold]

theorem HeadMesh.flat_inGrid (o : OutputSetup) (t : Tile) : (HeadMesh.flat o t).inGrid o.nodes :=
  flatMesh_inGrid o t _ rfl rfl

/-- No commit is pending and no claim held on a head at the cold-reset values. -/
theorem State.cold_mesh (straps : BaudRate) (lines : Quad Bool) (f : Flash) (l : List Instr) (h : Head) :
    (State.cold straps lines f l).mesh.get h = HeadMesh.flat .cold .canvas := Quad.get_const _ h

section Cold

variable (straps : BaudRate) (lines : Quad Bool) (f : Flash) (l : List Instr)

theorem State.cold_fadesLawful : (State.cold straps lines f l).fadesLawful := fun sl q hq => by
  simp [State.cold] at hq

theorem State.cold_bandsLawful : (State.cold straps lines f l).bandsLawful := fun sl q hq => by
  simp [State.cold] at hq

theorem State.cold_contributionsLawful : (State.cold straps lines f l).contributionsLawful := fun h => by
  simp only [State.cold, Quad.get_map]
  simp [Monitor.cold]

theorem State.cold_monitorsLawful : (State.cold straps lines f l).monitorsLawful := fun h => by
  simp only [State.cold, Quad.get_map]
  exact ⟨Monitor.cold_debounce _, by cases h <;> exact iff_of_true rfl rfl⟩

theorem State.cold_landingsLawful : (State.cold straps lines f l).landingsLawful := fun _ _ h => by
  rw [State.cold_mesh]
  rfl

theorem State.cold_banksLawful : (State.cold straps lines f l).banksLawful := fun h => by
  simp only [State.cold_mesh]
  exact HeadMesh.flat_inGrid ..

theorem State.cold_claimsLawful : (State.cold straps lines f l).claimsLawful := fun h hc =>
  absurd (by rw [State.cold_mesh]; rfl) hc

theorem State.cold_tablesLawful : (State.cold straps lines f l).tablesLawful := fun sel hs =>
  ⟨(Tables.cold_fits sel hs).1, Tables.cold_fits sel hs⟩

theorem State.cold_curvesLawful : (State.cold straps lines f l).curvesLawful := fun n h3 h7 => by
  interval_cases n <;> exact linearCurve_ok

theorem State.cold_countersLawful : (State.cold straps lines f l).countersLawful := by
  simp [State.countersLawful, State.cold]

theorem State.cold_settingsLawful : (State.cold straps lines f l).settingsLawful :=
  ⟨by simp [State.cold, OutputSetup.cold], fun h => by cases h <;> exact HeadRecord.cold_lawful _,
    by simp [State.cold, SourceInput.cold]⟩

theorem State.cold_buffersLawful : (State.cold straps lines f l).buffersLawful :=
  ⟨Nat.zero_le 1, Nat.zero_le 1, Nat.zero_le 1, by simp [State.cold, Buffers.toList, Buffer.lawful]⟩

theorem State.cold_viewsLawful : (State.cold straps lines f l).viewsLawful :=
  ⟨fun _ h => Quad.get_const none h, fun _ k _ => Quad.get_const none k⟩

/-- A cold reset meets the laws of the blocks, whatever state it finds. -/
theorem Keeps.cold (s : State) (hf : f.pages.length = s.flash.pages.length) :
    Keeps s (State.cold straps lines f l) where
  fades _ := State.cold_fadesLawful _ _ _ _
  bands _ := State.cold_bandsLawful _ _ _ _
  contributions _ := State.cold_contributionsLawful _ _ _ _
  monitors _ := State.cold_monitorsLawful _ _ _ _
  landings _ := State.cold_landingsLawful _ _ _ _
  banks _ := State.cold_banksLawful _ _ _ _
  claims _ := State.cold_claimsLawful _ _ _ _
  tables _ := State.cold_tablesLawful _ _ _ _
  curves _ := State.cold_curvesLawful _ _ _ _
  counters _ := State.cold_countersLawful _ _ _ _
  settings _ := State.cold_settingsLawful _ _ _ _
  flash h := hf.trans h
  buffers _ := State.cold_buffersLawful _ _ _ _
  views _ := State.cold_viewsLawful _ _ _ _

end Cold

theorem State.flashCut_length (s : State) : s.flashCut.pages.length = s.flash.pages.length := by
  unfold State.flashCut
  split <;> simp [Flash.eraseSector]

/-! ## The cold start -/

theorem Keeps.endColdStart (code : Byte) (x : StoredState) (s : State) : Keeps s (s.endColdStart code x) := by
  let u : State := ({ s with startCode := code, startPhase := .ended, stored := x, flashTimer := none }).raise .started
  have hu : Keeps s u := .of_core rfl
  unfold State.endColdStart State.autoStart
  split
  · exact hu.trans (.startOutput u)
  · exact hu

theorem Keeps.checkBody (check : BitVec 16) (body : List Byte) (s : State) : Keeps s (s.checkBody check body) := by
  unfold State.checkBody
  split
  · split
    · rename_i m hm
      exact (Keeps.applyImage (readImage_lawful hm) s).trans (.endColdStart ..)
    · exact .endColdStart ..
  · exact .endColdStart ..

theorem Keeps.execFlashIdentifyAnswered {ident : List Byte} {s t : State}
    (h : execFlashIdentifyAnswered ident s = .next t) : Keeps s t := by
  unfold Machine.execFlashIdentifyAnswered at h
  split at h
  · split at h <;> cases h <;> exact .of_core rfl
  all_goals cases h; exact .refl s

theorem Keeps.execHeaderReadAnswered {read : FlashAnswer} {s t : State}
    (h : execHeaderReadAnswered read s = .next t) : Keeps s t := by
  unfold Machine.execHeaderReadAnswered at h
  split at h
  · dsimp only at h
    split at h
    · cases h; exact .refl s
    split at h
    · cases h; exact .endColdStart ..
    split at h
    · cases h; exact .endColdStart ..
    split at h
    · cases h; exact .checkBody ..
    · cases h; exact .of_core rfl
  all_goals cases h; exact .refl s

theorem Keeps.execBodyReadAnswered {read : FlashAnswer} {s t : State}
    (h : execBodyReadAnswered read s = .next t) : Keeps s t := by
  unfold Machine.execBodyReadAnswered at h
  split at h
  · dsimp only at h
    split at h
    · cases h; exact .refl s
    split at h
    · cases h; exact .of_core rfl
    · cases h; exact .checkBody ..
  all_goals cases h; exact .refl s

theorem Keeps.execStartupFlashTimeout {s t : State} (h : execStartupFlashTimeout s = .next t) : Keeps s t := by
  unfold Machine.execStartupFlashTimeout at h
  split at h <;> cases h
  · exact (Keeps.elapseTo _ _ s).trans (.endColdStart ..)
  · exact .refl s

/-! ## Output Timing -/

theorem Keeps.execFramePeriodExpiry {s t : State} (h : execFramePeriodExpiry s = .next t) : Keeps s t := by
  unfold Machine.execFramePeriodExpiry at h
  split at h <;> cases h
  · exact (Keeps.elapseTo _ _ s).trans (.frameEvent ..)
  · exact (Keeps.elapseTo _ _ s).trans (.frameEvent ..)
  · exact .refl s
  · exact .refl s

theorem Keeps.execFollowTimeout {s t : State} (h : execFollowTimeout s = .next t) : Keeps s t := by
  unfold Machine.execFollowTimeout at h
  split at h <;> cases h
  · exact (Keeps.elapseTo _ _ s).trans (.frameEvent ..)
  · exact .refl s
  · exact .refl s
  · exact .refl s

theorem Keeps.execFadeSettle {sl : Slot} {s t : State} (h : execFadeSettle sl s = .next t) : Keeps s t := by
  unfold Machine.execFadeSettle at h
  split at h
  · split at h <;> cases h
    · exact .ownEvent s
    · exact .refl s
  · cases h; exact .refl s

theorem Keeps.execHoldTimeExpiry {s t : State} (h : execHoldTimeExpiry s = .next t) : Keeps s t := by
  unfold Machine.execHoldTimeExpiry at h
  split at h <;> cases h
  · exact .ownEvent s
  · exact .refl s

/-! ## The source link -/

theorem Keeps.noteStart (bits : Depth) (s : State) : Keeps s (s.noteStart bits) := Keeps.source s _ id

theorem Keeps.measure (n : Nat) (s : State) : Keeps s (s.measure n) := by
  unfold State.measure
  split
  · exact .of_core rfl
  · exact .refl s

theorem Keeps.acquire (s : State) : Keeps s s.acquire := by
  unfold State.acquire
  split
  · exact (Keeps.source s _ (by exact fun h => ⟨h.1, Nat.zero_le 1⟩)).trans (.setInput ..)
  · exact (Keeps.source s _ (by exact fun h => ⟨h.1, Nat.zero_le 1⟩)).trans (.setInput ..)
  · exact (Keeps.source s _ (by exact fun h => ⟨h.1, Nat.zero_le 1⟩)).trans (.setInput ..)
  all_goals exact .refl s

theorem Keeps.cutRun (s : State) : Keeps s s.cutRun := by
  unfold State.cutRun
  split
  · exact Keeps.source s _ fun h => ⟨h.1, Nat.zero_le 1⟩
  · exact .refl s

/-- A cut leaves no buffer FILLING. -/
theorem State.cutFrame_filling (s : State) : s.cutFrame.buffers.toList.countP Buffer.isFilling = 0 := by
  rw [State.cutFrame_eq, List.countP_eq_zero]
  intro x hx
  obtain ⟨y, -, rfl⟩ := List.mem_map.1 (show x ∈ s.buffers.toList.map Buffer.cut from hx)
  cases y <;> simp [Buffer.cut, Buffer.isFilling]

theorem Keeps.fillStep (w : Nat) (s : State) : Keeps s (s.fillStep w) :=
  ((Keeps.cutRun s).trans (.cutFrame _)).trans
    (Keeps.buffers_write _ _ (Buffers.lawful_fill w (State.cutFrame_filling _)))

theorem Keeps.paceStep (l : Bool) (s : State) : Keeps s (s.paceStep l) := by
  unfold State.paceStep
  split
  · split
    · exact .frameEvent ..
    · exact .refl s
  · split
    · exact .frameEvent ..
    · exact .refl s
  all_goals exact .refl s

theorem Keeps.sourceStart (o : FrameOpening) (n : Nat) (b : Bool) (s : State) : Keeps s (s.sourceStart o n b) := by
  have hnote := (Keeps.measure n s).trans (.noteStart o.bits _)
  unfold State.sourceStart
  dsimp only
  split
  · exact ((hnote.trans (.paceStep ..)).trans (.fillStep ..)).trans (.acquire _)
  · exact ((hnote.trans (.fillStep ..)).trans (.acquire _)).trans (.paceStep ..)

theorem Keeps.execSourceFrameStart {o : FrameOpening} {n : Nat} {b : Bool} {s t : State}
    (h : execSourceFrameStart o n b s = .next t) : Keeps s t := by
  unfold Machine.execSourceFrameStart at h
  split at h <;> cases h
  · exact (Keeps.elapseTo _ _ s).trans (.sourceStart ..)
  · exact .sourceStart ..

/-- A code widened is within 12 bits (R137). -/
theorem widen_lt (d : Depth) (c : Nat) : widen d c < 4096 := by
  cases d <;> simp only [widen, linkCode] <;> omega

/-- The frame that Source Input writes of lines of one supported size is lawful (R137, R138). -/
theorem written_lawful {lines : List (List Rgb)} {z : Size} (h : classify lines = .complete z) (d : Depth) :
    (SourceFrame.mk z (written d lines)).lawful := by
  cases lines with
  | nil => cases h
  | cons l rest =>
    simp only [classify] at h
    split at h
    · rename_i hall
      split at h
      · rename_i hsup
        cases h
        have hsize := hsup
        simp only [Size.supported, decide_eq_true_eq] at hsize
        refine ⟨hsup, by simp [written]; omega, fun x hx => ?_⟩
        obtain ⟨y, hy, rfl⟩ := List.mem_map.1 hx
        have hlen : y.length = l.length := by
          rcases List.mem_cons.1 (List.mem_of_mem_take hy) with rfl | hy
          · rfl
          · simpa using List.all_eq_true.1 hall y hy
        refine ⟨by simp [hlen]; omega, fun c hc => ?_⟩
        obtain ⟨c, -, rfl⟩ := List.mem_map.1 hc
        exact ⟨widen_lt _ _, widen_lt _ _, widen_lt _ _⟩
      · cases h
    · cases h

theorem Keeps.frameReady {f : SourceFrame} (hf : f.lawful) (s : State) : Keeps s (s.frameReady f) := by
  refine (Keeps.buffers_write s _ (Buffers.lawful_finish hf)).trans
    (Keeps.counters_write _ _ s.repeated s.broken fun h => ⟨?_, h.2.1, h.2.2⟩)
  split
  · exact bump_le _
  · exact h.1

theorem Keeps.frameLetGo (s : State) : Keeps s s.frameLetGo := Keeps.buffers_write s _ Buffers.lawful_cut

theorem Keeps.setCandidate (z : Size) (s : State) : Keeps s (s.setCandidate z) :=
  Keeps.source s _ fun h => ⟨h.1, Nat.le_refl 1⟩

theorem Keeps.completeFrame {f : SourceFrame} (hf : f.lawful) (z : Size) (s : State) :
    Keeps s (s.completeFrame z f) := by
  have again : Keeps s (((s.setCandidate z).setInput .acquiring).frameLetGo) :=
    ((Keeps.setCandidate z s).trans (.setInput ..)).trans (.frameLetGo _)
  unfold State.completeFrame
  split
  · split
    · exact ((Keeps.source s _ (by exact fun h => ⟨h.1, Nat.zero_le 1⟩)).trans (.setInput ..)).trans (.frameReady hf _)
    · exact (Keeps.setCandidate z s).trans (.frameLetGo _)
  · split
    · exact .frameReady hf s
    · exact again
  · exact again
  all_goals exact .frameLetGo s

theorem Keeps.outOfRangeFrame (z : Size) (s : State) : Keeps s (s.outOfRangeFrame z) := by
  let u : State := { s with source := { s.source with outOfRange := some z } }
  have hu : Keeps s u := Keeps.source s _ (by exact id)
  change Keeps s (match u.source.state with
    | .acquiring => (({ u with source := { u.source with runCount := 0 } }).setInput .unsupported).frameLetGo
    | .locked => (u.setInput .unsupported).frameLetGo
    | .unsupported | .noSignal | .holding | .black => u.frameLetGo)
  split
  · exact hu.trans (((Keeps.source u _ (by exact fun h => ⟨h.1, Nat.zero_le 1⟩)).trans (.setInput ..)).trans
      (.frameLetGo _))
  · exact hu.trans ((Keeps.setInput .unsupported u).trans (.frameLetGo _))
  all_goals exact hu.trans (.frameLetGo u)

theorem Keeps.execSourceFrameEnd {lines : List (List Rgb)} {s t : State}
    (h : execSourceFrameEnd lines s = .next t) : Keeps s t := by
  unfold Machine.execSourceFrameEnd at h
  split at h
  · split at h <;> cases h
    · exact .completeFrame (written_lawful ‹_› _) ..
    · exact .outOfRangeFrame ..
    · exact (Keeps.cutRun s).trans (.cutFrame _)
  · cases h; exact .refl s

theorem Keeps.loseInput (s : State) : Keeps s s.loseInput := by
  unfold State.loseInput
  split
  · dsimp only
    split
    · exact ((Keeps.source s _ (by exact id)).trans (.setInput ..)).trans (.setInput ..)
    · exact (Keeps.source s _ (by exact id)).trans (.setInput ..)
  · exact (Keeps.source s _ (by exact fun h => ⟨h.1, Nat.zero_le 1⟩)).trans (.setInput ..)
  · exact .setInput ..
  all_goals exact .refl s

theorem Keeps.execSourceLoss {s t : State} (h : execSourceLoss s = .next t) : Keeps s t := by
  unfold Machine.execSourceLoss at h
  split at h <;> cases h
  · exact .refl s
  · exact (Keeps.elapseTo _ _ s).trans (((Keeps.source _ _ (by exact id)).trans (.cutFrame _)).trans (.loseInput _))

/-! ## The Presence Monitor -/

theorem Keeps.execDetectLineChange {h : Head} {level : Bool} {s t : State}
    (hx : execDetectLineChange h level s = .next t) : Keeps s t := by
  cases hx
  have one : ∀ i, (s.monitor.set h ((s.monitor.get h).lineAt level)).get i = s.monitor.get i ∨
      i = h ∧ (s.monitor.set h ((s.monitor.get h).lineAt level)).get i = (s.monitor.get h).lineAt level := by
    intro i
    rw [Quad.get_set]
    by_cases hi : i = h <;> simp [hi]
  refine Keeps.monitor s _ (fun i => ?_) (fun i => ?_) fun i e => ?_ <;> rcases one i with h' | ⟨rfl, h'⟩ <;> rw [h']
  · exact {}
  · refine { debounce := fun _ => ?_ }
    by_cases hl : level = (s.monitor.get i).sink
    · simp [Monitor.lineAt, hl]
    · simp only [Monitor.lineAt, hl, if_false, iff_false]
      split
      · simp
      · assumption
  · rfl
  · rfl

theorem Keeps.settleSink (h : Head) (s : State) : Keeps s (s.settleSink h) :=
  Keeps.rederive_monitor s h _ { debounce := fun _ => by simp }

theorem Keeps.execSinkDebounceExpiry {h : Head} {s t : State} (hx : execSinkDebounceExpiry h s = .next t) :
    Keeps s t := by
  unfold Machine.execSinkDebounceExpiry at hx
  split at hx <;> cases hx
  · exact .refl s
  · exact (Keeps.elapseTo _ _ s).trans (.settleSink ..)

theorem Presence.elapse_watched (n : Nat) (x : Presence) : x.elapse n = .notWatched ↔ x = .notWatched := by
  cases x <;> simp [Presence.elapse]

theorem Keeps.execPresenceExpiry {h : Head} {s t : State} (hx : execPresenceExpiry h s = .next t) : Keeps s t := by
  unfold Machine.execPresenceExpiry at hx
  split at hx <;> cases hx
  · rename_i hp _
    refine (Keeps.elapseTo _ _ s).trans (.setPresence h _ _ ?_)
    simp [State.elapseTo, Monitor.elapse, Presence.elapse_watched, hp]
  · exact .refl s

theorem Keeps.execClaimLapse {h : Head} {s t : State} (hx : execClaimLapse h s = .next t) : Keeps s t := by
  unfold Machine.execClaimLapse at hx
  split at hx <;> cases hx
  · exact (Keeps.elapseTo _ _ s).trans (.loseClaim ..)
  · exact .refl s

/-! ## The port lines -/

theorem Keeps.execReceiveGapTimeout {p : Port} {s t : State} (h : execReceiveGapTimeout p s = .next t) : Keeps s t := by
  unfold Machine.execReceiveGapTimeout at h
  split at h <;> cases h
  · exact .refl s
  · exact (Keeps.elapseTo _ _ s).trans (.setAssembler ..)

theorem Keeps.execLenOversize {p : Port} {len : Byte} {s t : State} (h : execLenOversize p len s = .next t) :
    Keeps s t := by
  unfold Machine.execLenOversize at h
  split at h <;> cases h
  · exact .setAssembler ..
  · exact .refl s

theorem Keeps.execReplySent {p : Port} {s t : State} (h : execReplySent p s = .next t) : Keeps s t := by
  unfold Machine.execReplySent at h
  split at h <;> cases h
  · exact .refl s
  · exact Keeps.trans (Keeps.of_core (by rfl)) (.takeNext _)

/-! ## Saving -/

theorem State.issue_length (x : SaveState) (s : State) : (s.issue x).pages.length = s.flash.pages.length := by
  unfold State.issue
  split <;> simp

theorem Keeps.opEnds (s : State) : Keeps s s.opEnds := by
  unfold State.opEnds
  split
  · exact { flash := fun h => (Flash.finish_length ..).trans h }
  · exact .refl s

theorem Keeps.saveGoesOn {x : SaveState} (hx : x.inFlight = true) (s : State) : Keeps s (s.saveGoesOn x) :=
  (Keeps.save_write s x _ (State.issue_length x s) (.inl hx)).trans (.of_core rfl)

theorem Keeps.endSave (x : SaveState) (s : State) (hx : x.inFlight = false) : Keeps s (s.endSave x) := by
  unfold State.endSave
  dsimp only
  split
  · rename_i hr
    exact (Keeps.save_write s x s.flash rfl (.inr (.inl hr))).trans (.of_core rfl)
  · -- the landings come first: the laws let a commit be pending only while the save is in flight
    let u : State := ({ s with save := x, flashTimer := none }).raise .saveFinished
    have hu : u.saving = false := hx
    have hmesh : ∀ k, u.landAll.mesh.get k = s.mesh.get k ∨ u.landAll.mesh.get k =
        { s.mesh.get k with active := (s.mesh.get k).staged, claim := none, commitPending := false } := fun k => by
      rw [State.landAll_get]
      split
      · exact .inr rfl
      · exact .inl rfl
    have hnone : ∀ k, (u.landAll.mesh.get k).commitPending = false := fun k => by
      rw [State.landAll_get]
      simp only [hu, and_true]
      split
      · rfl
      · rename_i hc
        simpa using hc
    refine ((Keeps.landed s u.landAll.mesh hmesh).trans (Keeps.save_write _ x s.flash rfl
      (.inr (.inr (.inr hnone))))).trans (.of_core ?_)
    simp [State.core, u]

theorem Keeps.execSaveEraseDone {s t : State} (h : execSaveEraseDone s = .next t) : Keeps s t := by
  unfold Machine.execSaveEraseDone at h
  split at h
  · split at h <;> cases h <;> exact .saveGoesOn rfl s
  · cases h; exact .refl s

theorem Keeps.execSavePageProgrammed {s t : State} (h : execSavePageProgrammed s = .next t) : Keeps s t := by
  unfold Machine.execSavePageProgrammed at h
  split at h
  · split at h <;> cases h <;> exact (Keeps.opEnds s).trans (.saveGoesOn rfl _)
  · cases h; exact .refl s

theorem Keeps.execSaveHeaderProgrammed {s t : State} (h : execSaveHeaderProgrammed s = .next t) : Keeps s t := by
  unfold Machine.execSaveHeaderProgrammed at h
  split at h <;> cases h
  · exact (Keeps.opEnds s).trans (.saveGoesOn rfl _)
  · exact .refl s

theorem Keeps.endVerify (s : State) (l : List Byte) : Keeps s (s.endVerify l) := by
  unfold State.endVerify
  split
  · exact Keeps.trans (Keeps.of_core (by rfl)) (.endSave .ok _ rfl)
  · exact .endSave .failedVerify s rfl

theorem Keeps.execSaveVerifyRead {read : FlashAnswer} {s t : State} (h : execSaveVerifyRead read s = .next t) :
    Keeps s t := by
  unfold Machine.execSaveVerifyRead at h
  split at h
  · dsimp only at h
    split at h
    · cases h; exact .refl s
    split at h
    · cases h; exact .endSave .failedVerify s rfl
    split at h
    · cases h; exact .saveGoesOn rfl s
    · cases h; exact .endVerify ..
  · cases h; exact .refl s

theorem Keeps.execSaveFlashTimeout {s t : State} (h : execSaveFlashTimeout s = .next t) : Keeps s t := by
  unfold Machine.execSaveFlashTimeout at h
  split at h <;> cases h
  · exact (Keeps.elapseTo _ _ s).trans (.endSave .failedTimeout _ rfl)
  · exact .refl s

theorem Keeps.execAbortedFlashOperationEnd {s t : State} (h : execAbortedFlashOperationEnd s = .next t) :
    Keeps s t := by
  unfold Machine.execAbortedFlashOperationEnd at h
  split at h
  · cases h; exact .refl s
  · cases h
    exact { flash := fun hl => (State.issue_length ..).trans ((Flash.finish_length ..).trans hl) }

/-! ## Every command and every step -/

/-- Every command keeps every law of the blocks. -/
theorem exec_keeps {c : Instr} {s t : State} (h : exec c s = .next t) : Keeps s t := by
  cases c with
  | coldReset straps => cases h; exact Keeps.cold _ _ _ _ s s.flashCut_length
  | flashIdentifyAnswered ident => exact .execFlashIdentifyAnswered h
  | headerReadAnswered read => exact .execHeaderReadAnswered h
  | bodyReadAnswered read => exact .execBodyReadAnswered h
  | startupFlashTimeout => exact .execStartupFlashTimeout h
  | framePeriodExpiry => exact .execFramePeriodExpiry h
  | followTimeout => exact .execFollowTimeout h
  | fadeSettle slot => exact .execFadeSettle h
  | holdTimeExpiry => exact .execHoldTimeExpiry h
  | sourceFrameStart o n b => exact .execSourceFrameStart h
  | sourceFrameEnd lines => exact .execSourceFrameEnd h
  | sourceLoss => exact .execSourceLoss h
  | detectLineChange k level => exact .execDetectLineChange h
  | sinkDebounceExpiry k => exact .execSinkDebounceExpiry h
  | presenceExpiry k => exact .execPresenceExpiry h
  | claimLapse k => exact .execClaimLapse h
  | packetReceived p bytes => cases h; exact .receive ..
  | receiveGapTimeout p => exact .execReceiveGapTimeout h
  | brokenByte p => cases h; exact .setAssembler ..
  | lenOversize p len => exact .execLenOversize h
  | replySent p => exact .execReplySent h
  | status p tag body => exact .request (fun u => .of_eq (answerStatus_state p body u)) h
  | noticeRead p tag body => exact .request (.answerNoticeRead p body) h
  | noticeMask p tag body => exact .request (.answerNoticeMask p body) h
  | restart p tag body => exact .request (.answerRestart p body) h
  | outputSetup p tag body => exact .request (.answerOutputSetup p body) h
  | outputStart p tag body => exact .request (.answerOutputStart p body) h
  | outputStop p tag body => exact .request (.answerOutputStop p body) h
  | headSetup p tag body => exact .request (.answerHeadSetup p body) h
  | headQuery p tag body => exact .request (fun u => .of_eq (answerHeadQuery_state p body u)) h
  | headMode p tag body => exact .request (.answerHeadMode p body) h
  | meshWrite p tag body => exact .request (.answerMeshWrite p body) h
  | meshRead p tag body => exact .request (fun u => .of_eq (answerMeshRead_state p body u)) h
  | meshCommit p tag body => exact .request (.answerMeshCommit p body) h
  | meshDiscard p tag body => exact .request (.answerMeshDiscard p body) h
  | meshHold p tag body => exact .request (.answerMeshHold p body) h
  | meshQuery p tag body => exact .request (fun u => .of_eq (answerMeshQuery_state p body u)) h
  | meshGenerate p tag body during => exact .requestLong (.answerMeshGenerate during p body) h
  | meshShift p tag body during => exact .requestLong (.answerMeshShift during p body) h
  | meshCopy p tag body during => exact .requestLong (.answerMeshCopy during p body) h
  | seamDefine p tag body => exact .request (.answerSeamDefine p body) h
  | seamDelete p tag body => exact .request (.answerSeamDelete p body) h
  | seamQuery p tag body => exact .request (fun u => .of_eq (answerSeamQuery_state p body u)) h
  | seamPin p tag body => exact .request (.answerSeamPin p body) h
  | seamFades p tag body => exact .request (.answerSeamFades p body) h
  | curveWrite p tag body => exact .request (.answerCurveWrite p body) h
  | curveRead p tag body => exact .request (fun u => .of_eq (answerCurveRead_state p body u)) h
  | headState p tag body => exact .request (.answerHeadState p body) h
  | presenceSetup p tag body => exact .request (.answerPresenceSetup p body) h
  | tableWrite p tag body => exact .request (.answerTableWrite p body) h
  | tableRead p tag body => exact .request (fun u => .of_eq (answerTableRead_state p body u)) h
  | tableCommit p tag body => exact .request (.answerTableCommit p body) h
  | liftSet p tag body => exact .request (.answerLiftSet p body) h
  | sourceQuery p tag body => exact .request (.answerSourceQuery p body) h
  | holdSetup p tag body => exact .request (.answerHoldSetup p body) h
  | layoutRead p tag body => exact .request (fun u => .of_eq (answerLayoutRead_state p body u)) h
  | layoutApply p tag body => exact .request (.answerLayoutApply p body) h
  | save p tag body => exact .request (.answerSave p body) h
  | saveEraseDone => exact .execSaveEraseDone h
  | savePageProgrammed => exact .execSavePageProgrammed h
  | saveHeaderProgrammed => exact .execSaveHeaderProgrammed h
  | saveVerifyRead read => exact .execSaveVerifyRead h
  | saveFlashTimeout => exact .execSaveFlashTimeout h
  | abortedFlashOperationEnd => exact .execAbortedFlashOperationEnd h

/-- Every step keeps every law of the blocks. -/
theorem step_keeps {s t : State} (h : step s = .next t) : Keeps s t := by
  unfold step at h
  split at h
  · cases h
    exact .elapse 1 s
  · exact Keeps.trans (Keeps.of_core (by rfl)) (exec_keeps h)

end Sys2Proof.Machine

/-! PROVES. What every step keeps of the blocks: contributions, fades, bands, landings, banks, stores, buffers. -/

namespace Sys2Proof

open Sys2Proof.Machine

/-- Settles O27: every command keeps the contributions and the monitors. -/
theorem contributionLawsKept : Obligations.ContributionLawsKept :=
  fun _ _ h => ⟨(step_keeps h).contributions, (step_keeps h).monitors⟩

/-- Settles O34: every command keeps the law of the fades. -/
theorem fadeLawKept : Obligations.FadeLawKept := fun _ _ h => (step_keeps h).fades

/-- Settles O35: every command keeps the law of the bands. -/
theorem bandLawKept : Obligations.BandLawKept := fun _ _ h => (step_keeps h).bands

/-- Settles O44: every command keeps the law of the landings. -/
theorem landingLawKept : Obligations.LandingLawKept := fun _ _ h => (step_keeps h).landings

/-- Settles O45: every command keeps the laws of the banks and of the claims. -/
theorem bankLawsKept : Obligations.BankLawsKept := fun _ _ h => ⟨(step_keeps h).banks, (step_keeps h).claims⟩

/-- Settles O47: every command keeps the laws of the stores and settings. -/
theorem storeLawsKept : Obligations.StoreLawsKept := fun _ _ h =>
  ⟨(step_keeps h).tables, (step_keeps h).curves, (step_keeps h).counters, (step_keeps h).settings, (step_keeps h).flash⟩

/-- Settles O50: every command keeps the laws of the buffers and of the views. -/
theorem bufferLawsKept : Obligations.BufferLawsKept := fun _ _ h => ⟨(step_keeps h).buffers, (step_keeps h).views⟩

end Sys2Proof

/-! SUPPORT. What the queue, the Executor and the reply buffers hold, and which operations leave it alone. -/

namespace Sys2Proof.Machine

/-! ## States that serve the same requests -/

/-- What a port's reply buffer holds, for every port. -/
def State.replies (s : State) : PerPort (List Reply) := s.ports.map (·.replies)

theorem State.replies_get (s : State) (p : Port) : s.replies.get p = (s.ports.get p).replies :=
  PerPort.get_map _ _ p

/-- The queue, the request in hand, the reply buffers and the phase of the cold start are the same. -/
structure Traffic (s t : State) : Prop where
  queue : t.queue = s.queue := by rfl
  inHand : t.inHand = s.inHand := by rfl
  replies : t.replies = s.replies := by rfl
  startPhase : t.startPhase = s.startPhase := by rfl

theorem Traffic.refl (s : State) : Traffic s s := {}

theorem Traffic.of_eq {s t : State} (h : t = s) : Traffic s t := h ▸ .refl s

theorem Traffic.trans {s t u : State} (h : Traffic s t) (k : Traffic t u) : Traffic s u where
  queue := k.queue.trans h.queue
  inHand := k.inHand.trans h.inHand
  replies := k.replies.trans h.replies
  startPhase := k.startPhase.trans h.startPhase

/-- Besides, the part of the state that the law of the cold start reads stays. -/
structure Rests (s t : State) : Prop extends Traffic s t where
  startCode : t.startCode = s.startCode := by rfl
  save : t.save = s.save := by rfl
  timer : s.flashTimer ≠ none → t.flashTimer ≠ none := by exact id
  still : s.running = false → t.running = false := by exact id

theorem Rests.refl (s : State) : Rests s s := {}

theorem Rests.trans {s t u : State} (h : Rests s t) (k : Rests t u) : Rests s u where
  toTraffic := h.toTraffic.trans k.toTraffic
  startCode := k.startCode.trans h.startCode
  save := k.save.trans h.save
  timer := k.timer ∘ h.timer
  still := k.still ∘ h.still

/-- What every pass of a forEach rests, the forEach rests. -/
theorem Rests.forEach {f : Idx4 → State → State} (h : ∀ i s, Rests s (f i s)) (s : State) : Rests s (forEach f s) :=
  (h ..).trans ((h ..).trans ((h ..).trans (h ..)))

/-! ## The shared operations -/

/-- A function on every port that keeps its replies. -/
theorem State.replies_map {f : PortState → PortState} (hf : ∀ q, (f q).replies = q.replies) (P : PerPort PortState) :
    (P.map f).map (·.replies) = P.map (·.replies) := PerPort.ext_get fun p => by
  simp only [PerPort.get_map, hf]

/-- A function on one port that keeps its replies. -/
theorem State.replies_set {P : PerPort PortState} {p : Port} {q : PortState} (hq : q.replies = (P.get p).replies) :
    (P.set p q).map (·.replies) = P.map (·.replies) := PerPort.ext_get fun k => by
  simp only [PerPort.get_map, PerPort.get_set]
  split
  · rename_i e
    rw [e, hq]
  · rfl

theorem Rests.raise (n : Notice) (s : State) : Rests s (s.raise n) := { replies := State.replies_map (fun _ => rfl) _ }

theorem Rests.setAssembler (p : Port) (a : Assembler) (s : State) : Rests s (s.setAssembler p a) :=
  { replies := State.replies_set rfl }

theorem Rests.elapse (n : Nat) (s : State) : Rests s (s.elapse n) where
  replies := State.replies_map (fun _ => rfl) _
  timer h := by simpa using h
  still h := by
    unfold State.running at h ⊢
    cases ht : s.timing <;> simp [ht, Timing.elapse] at h ⊢

theorem Rests.elapseTo (l n : Nat) (s : State) : Rests s (s.elapseTo l n) := .elapse _ s

theorem Rests.putSeam (sl : Slot) (r : Seam × Bool) (s : State) : Rests s (s.putSeam sl r) := by
  unfold State.putSeam
  dsimp only
  split
  · exact Rests.trans {} (.raise _ _)
  · exact {}

theorem Rests.retargetSlot (sl : Slot) (s : State) : Rests s (s.retargetSlot sl) := by
  unfold State.retargetSlot
  split
  · exact .refl s
  · exact .putSeam ..

theorem Rests.rederive (h : Head) (s : State) : Rests s (s.rederive h) := by
  have named : ∀ sl u, Rests u (u.retargetNamed h sl) := fun sl u => by
    unfold State.retargetNamed
    split
    · exact .refl u
    · split
      · exact .retargetSlot sl u
      · exact .refl u
  unfold State.rederive
  dsimp only
  split
  · exact .refl s
  · exact Rests.trans {} ((Rests.raise (.headChanged h) _).trans (.forEach named _))

theorem Rests.setPresence (h : Head) (x : Presence) (s : State) : Rests s (s.setPresence h x) :=
  Rests.trans {} (.rederive h _)

theorem Rests.hear (h : Head) (s : State) : Rests s (s.hear h) := by
  unfold State.hear
  split
  · exact .refl s
  · exact {}
  · exact .setPresence ..
  · exact .setPresence ..

theorem Rests.restartClaims (p : Port) (s : State) : Rests s (s.restartClaims p) := {}

theorem Rests.touch (h : Option Head) (p : Port) (s : State) : Rests s (s.touch h p) := by
  cases h <;> exact {}

theorem Rests.loseClaim (h : Head) (o : Port) (s : State) : Rests s (s.loseClaim h o) :=
  Rests.trans {} (.raise _ _)

theorem Rests.land (h : Head) (s : State) : Rests s (s.land h) := by
  unfold State.land
  dsimp only
  split
  · exact Rests.trans {} (.raise _ _)
  · exact .refl s

theorem Rests.landAll (s : State) : Rests s s.landAll := by
  unfold State.landAll
  split
  · exact .refl s
  · exact .forEach .land s

theorem Rests.commit (h : Head) (s : State) : Rests s (s.commit h) := by
  unfold State.commit
  dsimp only
  split
  · exact {}
  · exact Rests.trans {} (.land h _)

theorem Rests.setInput (x : InputState) (s : State) : Rests s (s.setInput x) := by
  unfold State.setInput
  split
  · exact .refl s
  · exact Rests.trans {} (.raise _ _)

theorem Rests.cutFrame (s : State) : Rests s s.cutFrame := by
  unfold State.cutFrame
  split <;> exact {}

theorem Rests.advanceHold (s : State) : Rests s s.advanceHold := by
  unfold State.advanceHold
  dsimp only
  split
  · split
    · exact Rests.trans {} (.setInput ..)
    · exact {}
  · exact .refl s

theorem Rests.chooseBuffer (s : State) : Rests s s.chooseBuffer := by
  unfold State.chooseBuffer
  split
  · exact {}
  · split
    · exact {}
    · split <;> exact {}

theorem Rests.advanceFade (sl : Slot) (s : State) : Rests s (s.advanceFade sl) := by
  unfold State.advanceFade
  split
  · exact .refl s
  · exact .putSeam ..

theorem Rests.endFade (sl : Slot) (s : State) : Rests s (s.endFade sl) := by
  unfold State.endFade
  split
  · exact .refl s
  · exact .putSeam ..

theorem Rests.outputFrameStart (s : State) : Rests s s.outputFrameStart :=
  ((Rests.landAll s).trans (.forEach .advanceFade _)).trans
    (Rests.trans (t := (Machine.forEach State.advanceFade s.landAll).publish) {}
      ((Rests.advanceHold _).trans ((Rests.chooseBuffer _).trans {})))

theorem Rests.stopOutput (s : State) : Rests s s.stopOutput :=
  Rests.trans { still := fun _ => rfl } ((Rests.landAll _).trans (.forEach .endFade _))

theorem Rests.frameEvent (p : Pacing) (s : State) : Rests s (s.frameEvent p) := by
  unfold State.frameEvent
  split
  · exact .refl s
  · exact .stopOutput s
  · rename_i h
    refine Rests.trans ?_ (.outputFrameStart _)
    exact { still := fun hr => by simp [State.running, h] at hr }

theorem Rests.ownEvent (s : State) : Rests s s.ownEvent := by
  unfold State.ownEvent
  split
  · exact (Rests.elapseTo _ _ s).trans (.frameEvent _ _)
  · exact (Rests.elapseTo _ _ s).trans (.frameEvent _ _)
  · exact (Rests.elapseTo _ _ s).trans (.frameEvent _ _)
  · exact .refl s

theorem Traffic.startOutput (s : State) : Traffic s s.startOutput := by
  unfold State.startOutput
  split
  · exact Traffic.trans {} (Rests.outputFrameStart _).toTraffic
  · split
    · exact {}
    · exact Traffic.trans {} (Rests.outputFrameStart _).toTraffic

theorem Rests.writeHead (h : Head) (r : HeadRecord) (s : State) : Rests s (s.writeHead h r) := by
  unfold State.writeHead
  split
  · exact {}
  · exact Rests.trans {} (.rederive ..)

theorem Rests.layHeads (q : Preset) (p : Nat) (s : State) : Rests s (s.layHeads q p) := by
  rw [State.layHeads_eq]
  exact Rests.trans {} (.forEach (fun h u => .writeHead ..) _)

theorem Rests.laySeams (q : Preset) (p : Nat) (s : State) : Rests s (s.laySeams q p) := by
  have place : ∀ (l : List PresetSeam) (u : State),
      Rests u (l.foldl (fun s x => s.placeSeam x.slot (q.geometry p x) .auto 2 48) u) := by
    intro l
    induction l with
    | nil => exact .refl
    | cons x l ih => exact fun u => Rests.trans {} (ih _)
  exact place _ s

theorem Rests.layMeshes (q : Preset) (s : State) : Rests s (s.layMeshes q) :=
  .forEach (fun h u => by
    split
    · exact Rests.trans {} (.commit h _)
    · exact .refl u) s

theorem Rests.applyImage (m : Image) (s : State) : Rests s (s.applyImage m) := by
  have seam : ∀ sl u, Rests u (u.applySeam m sl) := fun sl u => by
    unfold State.applySeam
    split
    · exact {}
    · exact .refl u
  exact Rests.trans (Rests.trans (t := s.applyRecords m) {} (.forEach .rederive _))
    (Rests.trans (t := (Machine.forEach State.rederive (s.applyRecords m)).applyStores m) {} (.forEach seam _))

theorem Traffic.endSave (x : SaveState) (s : State) : Traffic s (s.endSave x) := by
  have hnote : Traffic s (({ s with save := x, flashTimer := none }).raise .saveFinished) :=
    Traffic.trans {} (Rests.raise _ _).toTraffic
  unfold State.endSave
  dsimp only
  split
  · exact hnote
  · exact hnote.trans (Rests.landAll _).toTraffic

/-! ## The rules of the requests -/

/-- A rule answers with a body that fits in a reply and leaves the queue, the Executor and the buffers alone. -/
structure Answer.Proper (s : State) (a : Answer) : Prop where
  traffic : Traffic s a.state
  room : s.curvesLawful → a.body.length ≤ 240

theorem Answer.Proper.report {s : State} {st : Status} {body : List Byte} (h : body.length ≤ 240) :
    Answer.Proper s ⟨s, st, body⟩ := ⟨.refl s, fun _ => h⟩

theorem Answer.Proper.refuse (s : State) (st : Status) : (Machine.refuse s st).Proper s := .report (Nat.zero_le _)

theorem Answer.Proper.done {s t : State} (h : Traffic s t) : (Machine.done t).Proper s := ⟨h, fun _ => Nat.zero_le _⟩

theorem Answer.Proper.adjusted {s t : State} (h : Traffic s t) (c : Bool) : (Machine.adjusted t c).Proper s :=
  ⟨h, fun _ => Nat.zero_le _⟩

/-! ### Reports -/

theorem entryBytes_length (l : List Nat) : (entryBytes l).length = 2 * l.length := by
  induction l with
  | nil => rfl
  | cons x l ih => simp_all [entryBytes, List.length_flatMap]; omega

theorem answerStatus_proper (p : Port) (body : List Byte) (s : State) : (answerStatus p body s).Proper s :=
  .report (by cases h : s.timing <;> simp [statusReport, timingBytes, h, Idx4.all])

theorem answerNoticeRead_proper (p : Port) (body : List Byte) (s : State) : (answerNoticeRead p body s).Proper s :=
  ⟨{ replies := State.replies_set rfl }, fun _ => by simp [answerNoticeRead, noticeBytes]⟩

theorem answerNoticeMask_proper (p : Port) (body : List Byte) (s : State) : (answerNoticeMask p body s).Proper s := by
  unfold answerNoticeMask
  split
  · exact ⟨{ replies := State.replies_set rfl }, fun _ => by simp [noticeBytes]⟩
  · exact .refuse ..

theorem answerHeadQuery_proper (p : Port) (body : List Byte) (s : State) : (answerHeadQuery p body s).Proper s := by
  unfold answerHeadQuery
  split
  · exact .refuse ..
  · exact .report (by simp [headReport, monitorBytes, tileBytes, patternBytes, rgbBytes])

theorem answerMeshQuery_proper (p : Port) (body : List Byte) (s : State) : (answerMeshQuery p body s).Proper s := by
  unfold answerMeshQuery
  split
  · exact .refuse ..
  · exact .report (by simp [meshReport])

theorem answerMeshRead_proper (p : Port) (body : List Byte) (s : State) : (answerMeshRead p body s).Proper s := by
  unfold answerMeshRead
  split
  · exact .refuse ..
  split
  · exact .refuse ..
  dsimp only
  split
  · rename_i h
    refine .report ?_
    have hrun : ∀ l : List Node, (l.flatMap nodeBytes).length = 7 * l.length := by
      intro l
      induction l with
      | nil => rfl
      | cons x l ih =>
        have : (nodeBytes x).length = 7 := rfl
        rw [List.flatMap_cons, List.length_append, ih, this, List.length_cons]
        omega
    simp only [List.length_append, length_be1, length_be2, hrun, List.length_take]
    omega
  · exact .refuse ..

theorem seamReport_length (sl : Slot) (q : Option Seam) : (seamReport sl q).length = 20 := by
  cases q with
  | none => rfl
  | some q => cases h : q.fade <;> simp [seamReport, fadeBytes, h]

theorem answerSeamQuery_proper (p : Port) (body : List Byte) (s : State) : (answerSeamQuery p body s).Proper s := by
  unfold answerSeamQuery
  split
  · exact .refuse ..
  · exact .report (by simp [seamReport_length])

/-- Every curve has 65 entries where the loadable ones are lawful. -/
theorem State.curve_length {s : State} (hc : s.curvesLawful) {n : Nat} (h : n ≤ 7) : (s.curves.curve n).length = 65 := by
  by_cases h3 : 3 ≤ n
  · have := hc n h3 h
    simp only [curveOk, Bool.and_eq_true, decide_eq_true_eq] at this
    exact this.1.1.1
  · interval_cases n <;> rfl

theorem answerCurveRead_proper (p : Port) (body : List Byte) (s : State) : (answerCurveRead p body s).Proper s := by
  unfold answerCurveRead
  split
  · rename_i h
    refine ⟨.refl s, fun hc => ?_⟩
    simp [entryBytes_length, State.curve_length hc h]
  · exact .refuse ..

theorem answerTableRead_proper (p : Port) (body : List Byte) (s : State) : (answerTableRead p body s).Proper s := by
  unfold answerTableRead
  dsimp only
  split
  · exact .refuse ..
  split
  · rename_i h
    refine .report ?_
    simp only [tableRunOk, Bool.and_eq_true, decide_eq_true_eq] at h
    simp only [List.length_append, length_be1, length_be2, entryBytes_length, List.length_take]
    omega
  · exact .refuse ..

theorem answerLayoutRead_proper (p : Port) (body : List Byte) (s : State) : (answerLayoutRead p body s).Proper s := by
  unfold answerLayoutRead
  split
  · exact .refuse ..
  · rename_i q hq
    refine .report ?_
    have h6 := preset?_lt hq
    interval_cases u8 body 0 <;> cases hq <;> simp [layoutReport, tileBytes]

theorem answerSourceQuery_proper (p : Port) (body : List Byte) (s : State) : (answerSourceQuery p body s).Proper s := by
  have length : ∀ n, (lengthBytes n).length = 2 := fun n => by unfold lengthBytes; split <;> rfl
  have size : ∀ z, (sizeBytes z).length = 4 := fun z => by cases z <;> simp [sizeBytes, length]
  have buffer : ∀ b, (bufferBytes b).length = 5 := fun b => by cases b <;> simp [bufferBytes, size]
  have report : (sourceReport s).length ≤ 240 := by simp [sourceReport, size, buffer]
  unfold answerSourceQuery
  split
  · exact .refuse ..
  · exact .report report
  · exact ⟨{}, fun _ => report⟩

/-! ### Output, heads and presence -/

theorem Rests.resetBanks (h : Head) (s : State) : Rests s (s.resetBanks h) := Rests.trans {} (.raise _ _)

theorem answerOutputSetup_proper (p : Port) (body : List Byte) (s : State) :
    (answerOutputSetup p body s).Proper s := by
  unfold answerOutputSetup
  split
  · exact .refuse ..
  split
  · exact .refuse ..
  split
  · exact .refuse ..
  dsimp only
  split
  · exact .done {}
  · exact .done (Rests.trans {} (.forEach .resetBanks _)).toTraffic

theorem answerOutputStart_proper (p : Port) (body : List Byte) (s : State) :
    (answerOutputStart p body s).Proper s := by
  unfold answerOutputStart
  split
  · exact .done (.startOutput s)
  · exact .done {}

theorem answerOutputStop_proper (p : Port) (body : List Byte) (s : State) : (answerOutputStop p body s).Proper s := by
  unfold answerOutputStop
  split <;> exact .done {}

theorem answerHeadSetup_proper (p : Port) (body : List Byte) (s : State) : (answerHeadSetup p body s).Proper s := by
  unfold answerHeadSetup
  split
  · exact .refuse ..
  split
  · dsimp only
    split
    · exact .refuse ..
    split
    · exact .refuse ..
    · exact .done (Rests.writeHead ..).toTraffic
  · exact .refuse ..

theorem answerHeadMode_proper (p : Port) (body : List Byte) (s : State) : (answerHeadMode p body s).Proper s := by
  unfold answerHeadMode
  split
  · exact .adjusted {} _
  · exact .refuse ..

theorem answerLiftSet_proper (p : Port) (body : List Byte) (s : State) : (answerLiftSet p body s).Proper s := by
  unfold answerLiftSet
  split
  · exact .refuse ..
  split
  · exact .refuse ..
  · exact .adjusted {} _

theorem stateReport_length (h : Head) (s : State) : (stateReport h s).length ≤ 240 := by
  simp [stateReport, monitorBytes]

theorem answerHeadState_proper (p : Port) (body : List Byte) (s : State) : (answerHeadState p body s).Proper s := by
  unfold answerHeadState
  split
  · refine ⟨?_, fun _ => stateReport_length ..⟩
    dsimp only
    split
    · exact .refl s
    · exact (Rests.trans {} (.rederive _ _)).toTraffic
  · exact .refuse ..

theorem answerPresenceSetup_proper (p : Port) (body : List Byte) (s : State) :
    (answerPresenceSetup p body s).Proper s := by
  unfold answerPresenceSetup
  split
  · exact .refuse ..
  split
  · refine ⟨?_, fun _ => stateReport_length ..⟩
    dsimp only
    split
    · exact {}
    · exact (Rests.trans {} (.setPresence ..)).toTraffic
  · exact .refuse ..

/-! ### Meshes -/

/-- What comes after the examination decides. -/
theorem Answer.Proper.examine {p : Port} {index : Nat} {s : State} {rule : Head → Answer}
    (h : ∀ k, (rule k).Proper s) : (Machine.examine p index s rule).Proper s := by
  unfold Machine.examine
  split
  · exact .refuse ..
  split
  · exact ⟨{}, fun _ => Nat.zero_le _⟩
  · exact h _

theorem answerMeshWrite_proper (p : Port) (body : List Byte) (s : State) : (answerMeshWrite p body s).Proper s := by
  refine .examine fun h => ?_
  split
  · exact .refuse ..
  split
  · exact .refuse ..
  dsimp only
  split
  · exact .adjusted {} _
  · exact .refuse ..

theorem answerMeshCommit_proper (p : Port) (body : List Byte) (s : State) : (answerMeshCommit p body s).Proper s := by
  refine .examine fun h => ?_
  split
  · split
    · exact .done (Rests.commit ..).toTraffic
    · exact .refuse ..
  · split
    · exact .done {}
    · exact .refuse ..
  · exact .refuse ..
  · exact .done {}

theorem answerMeshDiscard_proper (p : Port) (body : List Byte) (s : State) : (answerMeshDiscard p body s).Proper s := by
  unfold answerMeshDiscard
  split
  · exact .refuse ..
  refine .examine fun h => ?_
  split
  · exact .refuse ..
  split
  · exact .done {}
  split
  · exact .done {}
  split
  · exact .done (Rests.loseClaim ..).toTraffic
  · exact .refuse ..

theorem Rests.holdDiscard (h : Head) (s : State) : Rests s (s.holdDiscard h) := by
  unfold State.holdDiscard
  split
  · exact .loseClaim ..
  · exact .refl s

theorem answerMeshHold_proper (p : Port) (body : List Byte) (s : State) : (answerMeshHold p body s).Proper s := by
  unfold answerMeshHold
  split
  · exact .refuse ..
  split
  · refine .done ?_
    split
    · exact (Rests.trans {} (.holdDiscard ..)).toTraffic
    · exact {}
  · exact .refuse ..

/-! ### Seams, curves, tables, layouts, settings, saving -/

theorem answerSeamDefine_proper (p : Port) (body : List Byte) (s : State) : (answerSeamDefine p body s).Proper s := by
  unfold answerSeamDefine
  split
  · exact .refuse ..
  split
  · split
    · exact .refuse ..
    split
    · exact .refuse ..
    · exact .done {}
  · exact .refuse ..

theorem answerSeamDelete_proper (p : Port) (body : List Byte) (s : State) : (answerSeamDelete p body s).Proper s := by
  unfold answerSeamDelete
  split
  · exact .refuse ..
  split
  · exact .refuse ..
  · exact .done {}

theorem answerSeamPin_proper (p : Port) (body : List Byte) (s : State) : (answerSeamPin p body s).Proper s := by
  unfold answerSeamPin
  split
  · exact .refuse ..
  split
  · split
    · exact .refuse ..
    · exact .done (Rests.trans {} (.retargetSlot ..)).toTraffic
  · exact .refuse ..

theorem answerSeamFades_proper (p : Port) (body : List Byte) (s : State) : (answerSeamFades p body s).Proper s := by
  unfold answerSeamFades
  split
  · exact .refuse ..
  split
  · exact .refuse ..
  split
  · exact .refuse ..
  · exact .done {}

theorem answerCurveWrite_proper (p : Port) (body : List Byte) (s : State) : (answerCurveWrite p body s).Proper s := by
  unfold answerCurveWrite
  split
  · exact .refuse ..
  dsimp only
  split
  · exact .adjusted {} _
  · exact .refuse ..

theorem answerTableWrite_proper (p : Port) (body : List Byte) (s : State) : (answerTableWrite p body s).Proper s := by
  unfold answerTableWrite
  dsimp only
  split
  · exact .adjusted {} _
  · exact .refuse ..

theorem answerTableCommit_proper (p : Port) (body : List Byte) (s : State) : (answerTableCommit p body s).Proper s := by
  unfold answerTableCommit
  dsimp only
  split
  · exact .refuse ..
  split
  · exact .refuse ..
  split
  · exact .report (by simp)
  · exact .done {}

theorem answerHoldSetup_proper (p : Port) (body : List Byte) (s : State) : (answerHoldSetup p body s).Proper s := by
  unfold answerHoldSetup
  split
  · exact .refuse ..
  · exact .adjusted {} _

theorem answerLayoutApply_proper (p : Port) (body : List Byte) (s : State) : (answerLayoutApply p body s).Proper s := by
  unfold answerLayoutApply
  split
  · exact .refuse ..
  split
  · exact .refuse ..
  split
  · exact .refuse ..
  · exact ⟨((Rests.layHeads ..).trans ((Rests.laySeams ..).trans (.layMeshes ..))).toTraffic, fun _ => by simp⟩

theorem answerSave_proper (p : Port) (body : List Byte) (s : State) : (answerSave p body s).Proper s := by
  unfold answerSave
  split
  · exact .refuse ..
  · exact .done {}

end Sys2Proof.Machine

/-! SUPPORT. The laws of the Request Queue, the reply buffers, the Executor and the cold start. -/

namespace Sys2Proof.Machine

/-! ## The laws in terms of the traffic -/

theorem Traffic.aside {s t : State} (h : Traffic s t) (p : Port) : t.aside p = s.aside p := by
  unfold State.aside
  rw [h.queue, h.inHand]

theorem Traffic.held {s t : State} (h : Traffic s t) (p : Port) : (t.ports.get p).held = (s.ports.get p).held := by
  unfold PortState.held
  rw [← State.replies_get, ← State.replies_get, h.replies]

theorem Traffic.freeRoom {s t : State} (h : Traffic s t) (p : Port) : t.freeRoom p = s.freeRoom p := by
  unfold State.freeRoom
  rw [h.aside, h.held]

theorem Traffic.queueLawful {s t : State} (h : Traffic s t) (hs : s.queueLawful) : t.queueLawful := by
  unfold State.queueLawful State.queueBytes at hs ⊢
  rwa [h.queue]

theorem Traffic.roomLawful {s t : State} (h : Traffic s t) (hs : s.roomLawful) : t.roomLawful := fun p => by
  rw [h.held, h.aside]
  exact hs p

theorem Traffic.executorLawful {s t : State} (h : Traffic s t) (hs : s.executorLawful) : t.executorLawful := by
  intro hi e he
  rw [h.inHand] at hi
  rw [h.queue] at he
  rw [h.freeRoom]
  exact hs hi e he

theorem State.coldStartLawful_of_started {s : State} (h : s.started = true) : s.coldStartLawful :=
  fun hn => absurd (hn.symm.trans h) (by decide)

theorem Rests.coldStartLawful {s t : State} (h : Rests s t) (hs : s.coldStartLawful) : t.coldStartLawful := by
  intro hn
  have hstart : t.started = s.started := congrArg (· == StartPhase.ended) h.startPhase
  obtain ⟨hq, hi, hsave, hr, hcode, htimer⟩ := hs (hstart ▸ hn)
  exact ⟨h.queue.trans hq, h.inHand.trans hi, (congrArg SaveState.inFlight h.save).trans hsave, h.still hr,
    h.startCode.trans hcode, h.timer htimer⟩

/-! ## The laws as a preorder -/

/-- The state t keeps the laws of the queue, the Executor, the cold start and the reply room that s has, with those of
the blocks. -/
structure Serves (s t : State) : Prop extends Keeps s t where
  queueing : s.queueLawful → t.queueLawful
  executor : s.executorLawful → t.executorLawful
  coldStart : s.coldStartLawful → t.coldStartLawful
  room : s.curvesLawful → s.roomLawful → t.roomLawful

theorem Serves.refl (s : State) : Serves s s := ⟨.refl s, id, id, id, fun _ => id⟩

theorem Serves.trans {s t u : State} (h : Serves s t) (k : Serves t u) : Serves s u where
  toKeeps := h.toKeeps.trans k.toKeeps
  queueing := k.queueing ∘ h.queueing
  executor := k.executor ∘ h.executor
  coldStart := k.coldStart ∘ h.coldStart
  room hc hr := k.room (h.curves hc) (h.room hc hr)

theorem Serves.of_rests {s t : State} (h : Rests s t) (k : Keeps s t) : Serves s t :=
  ⟨k, h.queueLawful, h.executorLawful, h.coldStartLawful, fun _ => h.roomLawful⟩

/-- Where the cold start is over, the traffic decides. -/
theorem Serves.of_traffic {s t : State} (h : Traffic s t) (k : Keeps s t)
    (hs : s.coldStartLawful → t.started = true) : Serves s t :=
  ⟨k, h.queueLawful, h.executorLawful, fun hc => State.coldStartLawful_of_started (hs hc), fun _ => h.roomLawful⟩

/-! ## Replies -/

/-- Where a reply enters, its buffer grows by the reply, and nothing else that the laws read changes. -/
theorem State.enter_held (p q : Port) (r : Reply) (s : State) : ((s.enter p r).ports.get q).held =
    (s.ports.get q).held + if q = p then r.size else 0 := by
  simp only [State.enter, PortState.held, PerPort.get_set]
  split
  · rename_i e
    simp [e]
  · simp

theorem State.enter_aside (p q : Port) (r : Reply) (s : State) : (s.enter p r).aside q = s.aside q := rfl

theorem State.enter_freeRoom_le (p q : Port) (r : Reply) (s : State) : (s.enter p r).freeRoom q ≤ s.freeRoom q := by
  unfold State.freeRoom
  rw [State.enter_held, State.enter_aside]
  omega

/-- The room that is free, where the room set aside is there. -/
theorem State.freeRoom_eq (s : State) (p : Port) : s.freeRoom p = 1280 - ((s.ports.get p).held + s.aside p) := rfl

theorem Serves.immediate (p : Port) (tag : Byte) (st : Status) (s : State) : Serves s (s.immediate p tag st) := by
  rcases s.immediate_cases p tag st with ⟨hroom, e⟩ | ⟨_, e⟩
  · refine ⟨.immediate .., ?_, ?_, ?_, ?_⟩ <;> rw [e]
    · exact id
    · exact fun hx hi x hq => (State.enter_freeRoom_le ..).trans_lt (hx hi x hq)
    · exact id
    · intro _ hl q
      have hq := hl q
      rw [State.enter_held, State.enter_aside]
      split
      · rename_i hqp
        subst hqp
        rw [State.freeRoom_eq] at hroom
        simp only [Reply.size, List.length_nil]
        omega
      · omega
  · rw [e]
    exact .refl s

/-! ## Admission and taking -/

/-- A queue from which an entry is taken holds no more of any entries. -/
theorem countP_remove (f : Entry → Bool) (before after : List Entry) (e : Entry) :
    (before ++ e :: after).countP f = (before ++ after).countP f + if f e then 1 else 0 := by
  simp only [List.countP_append, List.countP_cons]
  omega

/-- The Executor's look at the queue keeps every law, and leaves it with nothing it may take. -/
theorem State.takeNext_executorLawful (s : State) : s.takeNext.executorLawful := by
  rcases s.takeNext_cases with ⟨e, hb | hn⟩ | ⟨b, x, a, _, _, _, _, e⟩ <;> rw [e]
  · exact fun hi => absurd hi hb
  · exact fun _ => hn
  · exact fun hi => absurd hi (by simp)

theorem State.takeNext_queueLawful {s : State} (hq : s.queueLawful) : s.takeNext.queueLawful := by
  rcases s.takeNext_cases with ⟨e, _⟩ | ⟨b, x, a, _, hs, _, _, e⟩ <;> rw [e]
  · exact hq
  obtain ⟨hl, hb, hc⟩ := hq
  simp only [State.queueBytes] at hb
  rw [hs] at hl hb
  simp only [State.queueLawful, State.queueBytes]
  refine ⟨?_, ?_, fun p => ?_⟩
  · simp only [List.length_append, List.length_cons] at hl ⊢
    omega
  · simp only [List.map_append, List.map_cons, List.sum_append, List.sum_cons] at hb ⊢
    omega
  · have := hc p
    rw [hs, countP_remove] at this
    omega

/-- The 6 bytes set aside for the entry and 240 free ones become the 246 of the request in hand. -/
theorem State.takeNext_roomLawful {s : State} (hr : s.roomLawful) : s.takeNext.roomLawful := by
  intro p
  rcases s.takeNext_cases with ⟨e, _⟩ | ⟨b, x, a, hi, hs, _, hroom, e⟩ <;> rw [e]
  · exact hr p
  have hp := hr p
  simp only [State.freeRoom_eq, State.aside, hi, hs, countP_remove, beq_iff_eq] at hp hroom ⊢
  by_cases hx : x.port = p
  · subst hx
    simp only [if_true] at hp hroom ⊢
    omega
  · simp only [hx, if_false] at hp ⊢
    omega

theorem Serves.takeNext (s : State) : Serves s s.takeNext := by
  refine ⟨.takeNext s, State.takeNext_queueLawful, fun _ => s.takeNext_executorLawful, fun hc hn => ?_,
    fun _ => State.takeNext_roomLawful⟩
  have hs : s.started = false := by simpa [State.started] using hn
  rcases s.takeNext_cases with ⟨e, _⟩ | ⟨b, x, a, _, hq, _, _, _⟩
  · rw [e]
    exact hc hs
  · have := (hc hs).1
    rw [hq] at this
    simp at this

theorem Serves.packetArrives (p : Port) (tag kind : Byte) (body : List Byte) (s : State) :
    Serves s (s.packetArrives p tag kind body) := by
  obtain ⟨u, hu, h⟩ := State.packetArrives_cases p tag kind body s
  have hrests : Rests s u := by
    rcases hu with rfl | ⟨k, -, rfl⟩
    · exact .restartClaims p s
    · exact (Rests.restartClaims p s).trans (.hear k _)
  have hkeeps : Keeps s u := by
    rcases hu with rfl | ⟨k, -, rfl⟩
    · exact .restartClaims p s
    · exact (Keeps.restartClaims p s).trans (.hear k _)
  have hsu : Serves s u := .of_rests hrests hkeeps
  rcases h with ⟨st, e⟩ | ⟨hstart, hadm, e⟩
  · rw [e]
    exact hsu.trans (.immediate ..)
  · obtain ⟨hlen, hbytes, hport, hroom⟩ := (State.admits_iff ..).1 hadm
    have hustart : u.started = true := (congrArg (· == StartPhase.ended) hrests.startPhase).trans hstart
    let v : State := { u with queue := u.queue ++ [Entry.mk p tag kind body] }
    have hv := Serves.takeNext v
    have huv : Keeps u v := .of_core rfl
    rw [e]
    refine ⟨hsu.toKeeps.trans (huv.trans hv.toKeeps), fun hq => ?_, fun _ => v.takeNext_executorLawful,
      fun _ => hv.coldStart (State.coldStartLawful_of_started hustart), fun hc hr => ?_⟩
    · obtain ⟨-, -, hcount⟩ := hsu.queueing hq
      refine hv.queueing ⟨?_, ?_, fun k => ?_⟩
      · simp only [v, List.length_append, List.length_singleton]
        omega
      · simp only [v, State.queueBytes, List.map_append, List.sum_append, List.map_cons, List.map_nil, List.sum_cons,
          List.sum_nil] at hbytes ⊢
        omega
      · have hk := hcount k
        simp only [v, List.countP_append, List.countP_cons, List.countP_nil]
        by_cases hpk : p = k
        · subst hpk
          simp only [beq_self_eq_true, if_true]
          omega
        · simp only [beq_iff_eq, hpk, if_false]
          omega
    · refine hv.room (hsu.curves hc) fun k => ?_
      have hk := hsu.room hc hr k
      simp only [v, State.freeRoom, State.aside, List.countP_append, List.countP_cons, List.countP_nil,
        Config.replyRoom] at hk hroom ⊢
      by_cases hpk : p = k
      · subst hpk
        simp only [beq_self_eq_true, if_true]
        omega
      · simp only [beq_iff_eq, hpk, if_false]
        omega

theorem Serves.setAssembler (p : Port) (a : Assembler) (s : State) : Serves s (s.setAssembler p a) :=
  .of_rests (.setAssembler ..) (.setAssembler ..)

theorem Serves.receiveAll (l : List Arrival) (s : State) : Serves s (s.receiveAll l) :=
  State.receiveAll_keeps (P := Serves s) (fun _ _ _ h => h.trans (.setAssembler ..))
    (fun _ _ _ _ h => h.trans (.immediate ..)) (fun _ _ _ _ _ h => h.trans (.packetArrives ..)) l s (.refl s)

theorem Serves.receive (p : Port) (bytes : List Byte) (s : State) : Serves s (s.receive p bytes) :=
  Serves.receiveAll [⟨0, p, bytes⟩] s

theorem Serves.comeIn (p : Port) (tag : Byte) (k : Kind) (body : List Byte) (s : State) :
    Serves s (s.comeIn p tag k body) := by
  unfold State.comeIn
  split
  · exact (Serves.setAssembler ..).trans (.packetArrives ..)
  · exact .refl s

/-! ## The answer of the request in hand -/

/-- The laws of the queue and the room while a request is carried out, up to its answer. -/
structure Carries (s t : State) : Prop extends Keeps s t where
  inHand : t.inHand = s.inHand
  startPhase : t.startPhase = s.startPhase
  queueing : s.queueLawful → t.queueLawful
  room : s.curvesLawful → s.roomLawful → t.roomLawful

theorem Carries.of_traffic {s t : State} (h : Traffic s t) (k : Keeps s t) : Carries s t :=
  ⟨k, h.inHand, h.startPhase, h.queueLawful, fun _ => h.roomLawful⟩

theorem Carries.trans {s t u : State} (h : Carries s t) (k : Carries t u) : Carries s u where
  toKeeps := h.toKeeps.trans k.toKeeps
  inHand := k.inHand.trans h.inHand
  startPhase := k.startPhase.trans h.startPhase
  queueing := k.queueing ∘ h.queueing
  room hc hr := k.room (h.curves hc) (h.room hc hr)

/-- A reply of at most 240 body bytes enters into the 246 bytes set aside for the request in hand. -/
theorem Carries.answered {s t : State} (h : Carries s t) {e : Entry} (hi : s.inHand = some e) {r : Reply}
    (hr : s.curvesLawful → r.body.length ≤ 240) : Serves s (t.answered e.port r) := by
  let u := ({ t with inHand := none }).enter e.port r
  have hin : t.inHand = some e := h.inHand.trans hi
  have hwake : s.coldStartLawful → s.started = true := fun hc => by
    rw [← Bool.not_eq_false]
    intro hn
    obtain ⟨-, hnone, -⟩ := hc hn
    exact absurd (hi.symm.trans hnone) (by simp)
  have hstart : u.started = s.started := congrArg (· == StartPhase.ended) h.startPhase
  have hu := Serves.takeNext u
  refine ⟨h.toKeeps.trans (.answered ..), fun hq => hu.queueing (h.queueing hq), fun _ => u.takeNext_executorLawful,
    fun hc => hu.coldStart (State.coldStartLawful_of_started (hstart.trans (hwake hc))), fun hc hl => ?_⟩
  refine State.takeNext_roomLawful fun p => ?_
  have hp := h.room hc hl p
  have hsize := hr hc
  have hheld := State.enter_held e.port p r { t with inHand := none }
  have haside : u.aside p = 6 * t.queue.countP fun x => x.port == p := rfl
  simp only [State.aside, hin] at hp
  rw [haside]
  refine (congrArg (· + _) hheld).trans_le ?_
  by_cases hx : e.port = p
  · subst hx
    simp only [if_true, Reply.size] at hp ⊢
    omega
  · simp only [hx, Ne.symm hx, if_false] at hp ⊢
    omega

theorem Carries.touch {s t : State} (h : Carries s t) (k : Option Head) (p : Port) : Carries s (t.touch k p) :=
  h.trans (.of_traffic (Rests.touch ..).toTraffic (.touch ..))

theorem Serves.finish {s : State} {k : Kind} {e : Entry} {a : Answer} (hi : s.inHand = some e)
    (h : Carries s a.state) (hr : s.curvesLawful → a.body.length ≤ 240) : Serves s (State.finish k e a) := by
  unfold State.finish
  split
  · exact (h.touch ..).answered hi hr
  · exact h.answered hi hr

/-- A request served: its rule carries, and answers with a body that fits. -/
theorem Serves.request {k : Kind} {f : Port → List Byte → State → Answer} {p : Port} {tag : Byte} {body : List Byte}
    {s t : State} (hf : ∀ u, Carries u (f p body u).state) (hr : ∀ u, u.curvesLawful → (f p body u).body.length ≤ 240)
    (h : s.request k f p tag body = .next t) : Serves s t := by
  have carry : ∀ u : State, u.hasInHand k p tag body → Serves u (u.carryOut k f ⟨p, tag, k.code, body⟩) := by
    intro u hu
    unfold State.carryOut State.answerTo
    split
    · exact .finish hu (hf u) (hr u)
    · exact .finish hu (.of_traffic (.refl u) (.refl u)) fun _ => Nat.zero_le _
  rcases State.request_cases k f p tag body s with ⟨u, hu, hin, e⟩ | e <;> rw [e] at h <;> cases h
  · rcases hu with rfl | rfl
    · exact carry _ hin
    · exact (Serves.comeIn ..).trans (carry _ hin)
  · exact .comeIn ..

theorem Serves.request_proper {k : Kind} {f : Port → List Byte → State → Answer} {p : Port} {tag : Byte}
    {body : List Byte} {s t : State} (hf : ∀ u, (f p body u).Proper u) (hk : ∀ u, Keeps u (f p body u).state)
    (h : s.request k f p tag body = .next t) : Serves s t :=
  .request (fun u => .of_traffic (hf u).traffic (hk u)) (fun u => (hf u).room) h

theorem Serves.requestLong {k : Kind} {f : List Arrival → Port → List Byte → State → LongAnswer} {p : Port}
    {tag : Byte} {body : List Byte} {during : List Arrival} {s t : State}
    (hf : ∀ u, u.inHand ≠ none → Carries u (f during p body u).answer.state)
    (hr : ∀ u, (f during p body u).answer.body.length ≤ 240)
    (h : s.requestLong k f p tag body during = .next t) : Serves s t := by
  have carry : ∀ u : State, u.hasInHand k p tag body →
      Serves u (u.carryOutLong k f during ⟨p, tag, k.code, body⟩) := by
    intro u hu
    have hin : u.inHand ≠ none := by
      unfold State.hasInHand at hu
      simp [hu]
    unfold State.carryOutLong
    dsimp only
    split
    · exact (Serves.finish hu (hf u hin) fun _ => hr u).trans (.receiveAll ..)
    · exact (Serves.finish hu (.of_traffic (.refl u) (.refl u)) fun _ => Nat.zero_le _).trans (.receiveAll ..)
  rcases State.requestLong_cases k f p tag body during s with ⟨u, hu, hin, e⟩ | e <;> rw [e] at h <;> cases h
  · rcases hu with rfl | rfl
    · exact carry _ hin
    · exact (Serves.comeIn ..).trans (carry _ hin)
  · exact (Serves.comeIn ..).trans (.receiveAll ..)

/-! ## RESTART (R177) -/

/-- The replies ABORTED of a list of entries enter one after another. -/
theorem State.abort_entries : ∀ (l : List Entry) (s : State) (p : Port),
    let t := l.foldl (fun s e => s.enter e.port ⟨e.tag, .aborted, []⟩) s
    (t.ports.get p).held = (s.ports.get p).held + 6 * l.countP (fun e => e.port == p) ∧ t.queue = s.queue ∧
      t.inHand = s.inHand ∧ t.startPhase = s.startPhase
  | [], s, p => ⟨rfl, rfl, rfl, rfl⟩
  | e :: l, s, p => by
    obtain ⟨h1, h2, h3, h4⟩ := State.abort_entries l (s.enter e.port ⟨e.tag, .aborted, []⟩) p
    refine ⟨?_, h2, h3, h4⟩
    rw [List.foldl_cons, h1, State.enter_held, List.countP_cons]
    by_cases hp : e.port = p
    · subst hp
      simp only [if_true, beq_self_eq_true, Reply.size, List.length_nil]
      omega
    · simp only [beq_iff_eq, hp, Ne.symm hp, if_false]
      omega

theorem Carries.abortQueue (s : State) : Carries s s.abortQueue := by
  have h := State.abort_entries s.queue { s with queue := [] }
  refine ⟨.of_core s.abortQueue_core, (h .ap).2.2.1, (h .ap).2.2.2, fun _ => ?_, fun _ hr p => ?_⟩
  · have hq : s.abortQueue.queue = [] := (h .ap).2.1
    simp [State.queueLawful, State.queueBytes, hq]
  · obtain ⟨hheld, hq, hi, -⟩ := h p
    have hp := hr p
    have hq' : s.abortQueue.queue = [] := hq
    have hi' : s.abortQueue.inHand = s.inHand := hi
    have hheld' : (s.abortQueue.ports.get p).held = (s.ports.get p).held + 6 * s.queue.countP fun e => e.port == p :=
      hheld
    simp only [State.aside, hq', hi', hheld', List.countP_nil] at hp ⊢
    omega

theorem Carries.answerRestart (p : Port) (body : List Byte) (s : State) :
    Carries s (answerRestart p body s).state := by
  have hblocks : Traffic s.abortQueue s.abortQueue.restartBlocks := by
    unfold State.restartBlocks State.abortSave
    split <;> exact {}
  have hsets : Traffic s.abortQueue.restartBlocks (s.abortQueue.restartBlocks.restartSets s.saving) :=
    { replies := State.replies_map (fun _ => rfl) _ }
  have h := (Carries.abortQueue s).trans (.of_traffic hblocks (.restartBlocks _))
  exact h.trans (.of_traffic hsets (.of_core rfl))

/-! ## Long operations -/

/-- While a request is in hand, what the lines bring is carried. -/
theorem Carries.of_serves {s t : State} (h : Serves s t) (hi : t.inHand = s.inHand) (hs : t.startPhase = s.startPhase) :
    Carries s t := ⟨h.toKeeps, hi, hs, h.queueing, h.room⟩

/-- A busy Executor takes nothing from a packet that comes in. -/
theorem State.packetArrives_busy {s : State} (hi : s.inHand ≠ none) (p : Port) (tag kind : Byte) (body : List Byte) :
    (s.packetArrives p tag kind body).inHand = s.inHand ∧ (s.packetArrives p tag kind body).startPhase = s.startPhase := by
  refine ⟨?_, by simp⟩
  obtain ⟨u, hu, h⟩ := State.packetArrives_cases p tag kind body s
  have hui : u.inHand = s.inHand := by
    rcases hu with rfl | ⟨k, -, rfl⟩
    · rfl
    · exact (Rests.hear k _).inHand
  rcases h with ⟨st, e⟩ | ⟨-, -, e⟩ <;> rw [e]
  · rw [← hui]
    rcases u.immediate_cases p tag st with ⟨-, e⟩ | ⟨-, e⟩
    · rw [e]
      rfl
    · rw [e]
  · rcases State.takeNext_cases { u with queue := u.queue ++ [Entry.mk p tag kind body] } with ⟨e, _⟩ | ⟨_, _, _, hn, _⟩
    · rw [e]
      exact hui
    · exact absurd (hui.symm.trans hn) hi

theorem Carries.chunk {s : State} (hi : s.inHand ≠ none) (p : Port) (count : Nat) (during : List Arrival) :
    Carries s (s.chunk p count during).state := by
  have h := State.chunk_keeps (P := fun u => Serves s u ∧ u.inHand = s.inHand ∧ u.startPhase = s.startPhase)
    (fun p a u ⟨h, hi, hp⟩ => ⟨h.trans (.setAssembler ..), hi, hp⟩)
    (fun p tag st u ⟨h, hi, hp⟩ => by
      have := Serves.immediate p tag st u
      rcases u.immediate_cases p tag st with ⟨-, e⟩ | ⟨-, e⟩
      · exact ⟨h.trans this, by rw [e]; exact hi, by rw [e]; exact hp⟩
      · exact ⟨h.trans this, by rw [e]; exact hi, by rw [e]; exact hp⟩)
    (fun p tag kind body u ⟨h, hu, hp⟩ => by
      obtain ⟨hi', hp'⟩ := State.packetArrives_busy (hu.symm ▸ hi) p tag kind body
      exact ⟨h.trans (.packetArrives ..), hi'.trans hu, hp'.trans hp⟩)
    p count during s ⟨.refl s, rfl, rfl⟩
  exact .of_serves h.1 h.2.1 h.2.2

/-- A long operation's rule carries where what comes after its examination does. -/
theorem Carries.examineLong {p : Port} {index : Nat} {during : List Arrival} {s : State} {rule : Head → LongAnswer}
    (h : ∀ k, Carries s (rule k).answer.state) : Carries s (Machine.examineLong p index during s rule).answer.state := by
  have same : Carries s s := .of_traffic (.refl s) (.refl s)
  unfold Machine.examineLong
  split
  · exact same
  split
  · exact .of_traffic {} (.clearLapse ..)
  split
  · exact same
  split
  · exact same
  · exact h _

end Sys2Proof.Machine

/-! SUPPORT. Every command keeps the laws of the queue, the Executor, the cold start and the reply room. -/

namespace Sys2Proof.Machine

/-! ## The cold start -/

section Cold

variable (straps : BaudRate) (lines : Quad Bool) (f : Flash) (l : List Instr)

theorem State.cold_queueLawful : (State.cold straps lines f l).queueLawful :=
  ⟨Nat.zero_le _, Nat.zero_le _, fun _ => Nat.zero_le _⟩

theorem State.cold_executorLawful : (State.cold straps lines f l).executorLawful := fun _ _ he => nomatch he

theorem State.cold_coldStartLawful : (State.cold straps lines f l).coldStartLawful := fun _ =>
  ⟨rfl, rfl, rfl, rfl, rfl, nofun⟩

theorem State.cold_roomLawful : (State.cold straps lines f l).roomLawful := fun p => by
  simp [PortState.held, PortState.cold, State.aside, State.cold]

theorem Serves.cold (s : State) (hk : Keeps s (State.cold straps lines f l)) :
    Serves s (State.cold straps lines f l) where
  toKeeps := hk
  queueing _ := State.cold_queueLawful _ _ _ _
  executor _ := State.cold_executorLawful _ _ _ _
  coldStart _ := State.cold_coldStartLawful _ _ _ _
  room _ _ := State.cold_roomLawful _ _ _ _

end Cold

/-- The cold start goes on with the next operation of the flash. -/
theorem Serves.nextPhase (s : State) (ph : StartPhase) (hs : s.started = false) :
    Serves s { s with startPhase := ph, flashTimer := some 0 } where
  toKeeps := .of_core rfl
  queueing := id
  executor := id
  coldStart hc _ := by
    obtain ⟨hq, hi, hsave, hr, hcode, -⟩ := hc hs
    exact ⟨hq, hi, hsave, hr, hcode, nofun⟩
  room _ := id

theorem Traffic.autoStart (s : State) : Traffic s s.autoStart := by
  unfold State.autoStart
  split
  · exact .startOutput s
  · exact .refl s

theorem Serves.endColdStart (code : Byte) (x : StoredState) (s : State) : Serves s (s.endColdStart code x) := by
  let u : State := { s with startCode := code, startPhase := .ended, stored := x, flashTimer := none }
  have hu : Serves s u := ⟨.of_core rfl, id, id, fun _ => State.coldStartLawful_of_started rfl, fun _ => id⟩
  have hrest : Traffic u (s.endColdStart code x) := (Rests.raise .started u).toTraffic.trans (.autoStart _)
  have hended : (s.endColdStart code x).started = true :=
    congrArg (· == StartPhase.ended) hrest.startPhase
  exact ⟨.endColdStart .., fun h => hrest.queueLawful (hu.queueing h), fun h => hrest.executorLawful (hu.executor h),
    fun _ => State.coldStartLawful_of_started hended, fun hc h => hrest.roomLawful (hu.room hc h)⟩

theorem Serves.checkBody (check : BitVec 16) (body : List Byte) (s : State) : Serves s (s.checkBody check body) := by
  unfold State.checkBody
  split
  · split
    · rename_i m hm
      exact (Serves.of_rests (.applyImage m s) (.applyImage (readImage_lawful hm) s)).trans (.endColdStart ..)
    · exact .endColdStart ..
  · exact .endColdStart ..

theorem State.started_of_phase {s : State} {ph : StartPhase} (h : s.startPhase = ph) (hp : ph ≠ .ended) :
    s.started = false := by
  simp [State.started, h, hp]

theorem Serves.execFlashIdentifyAnswered {ident : List Byte} {s t : State}
    (h : execFlashIdentifyAnswered ident s = .next t) : Serves s t := by
  unfold Machine.execFlashIdentifyAnswered at h
  split at h
  · rename_i hp
    split at h <;> cases h
    · exact .refl s
    · exact .nextPhase s _ (State.started_of_phase hp (by simp))
  all_goals cases h; exact .refl s

theorem Serves.execHeaderReadAnswered {read : FlashAnswer} {s t : State}
    (h : execHeaderReadAnswered read s = .next t) : Serves s t := by
  unfold Machine.execHeaderReadAnswered at h
  split at h
  · rename_i hp
    dsimp only at h
    split at h
    · cases h; exact .refl s
    split at h
    · cases h; exact .endColdStart ..
    split at h
    · cases h; exact .endColdStart ..
    split at h
    · cases h; exact .checkBody ..
    · cases h; exact .nextPhase s _ (State.started_of_phase hp (by simp))
  all_goals cases h; exact .refl s

theorem Serves.execBodyReadAnswered {read : FlashAnswer} {s t : State}
    (h : execBodyReadAnswered read s = .next t) : Serves s t := by
  unfold Machine.execBodyReadAnswered at h
  split at h
  · rename_i hp
    dsimp only at h
    split at h
    · cases h; exact .refl s
    split at h
    · cases h; exact .nextPhase s _ (State.started_of_phase hp (by simp))
    · cases h; exact .checkBody ..
  all_goals cases h; exact .refl s

theorem Serves.elapse (n : Nat) (s : State) : Serves s (s.elapse n) := .of_rests (.elapse n s) (.elapse n s)

theorem Serves.execStartupFlashTimeout {s t : State} (h : execStartupFlashTimeout s = .next t) : Serves s t := by
  unfold Machine.execStartupFlashTimeout at h
  split at h <;> cases h
  · exact (Serves.elapse _ s).trans (.endColdStart ..)
  · exact .refl s

/-! ## Output Timing and the source link -/

theorem Rests.execFramePeriodExpiry {s t : State} (h : execFramePeriodExpiry s = .next t) : Rests s t := by
  unfold Machine.execFramePeriodExpiry at h
  split at h <;> cases h
  · exact (Rests.elapseTo _ _ s).trans (.frameEvent ..)
  · exact (Rests.elapseTo _ _ s).trans (.frameEvent ..)
  · exact .refl s
  · exact .refl s

theorem Rests.execFollowTimeout {s t : State} (h : execFollowTimeout s = .next t) : Rests s t := by
  unfold Machine.execFollowTimeout at h
  split at h <;> cases h
  · exact (Rests.elapseTo _ _ s).trans (.frameEvent ..)
  · exact .refl s
  · exact .refl s
  · exact .refl s

theorem Rests.execFadeSettle {sl : Slot} {s t : State} (h : execFadeSettle sl s = .next t) : Rests s t := by
  unfold Machine.execFadeSettle at h
  split at h
  · split at h <;> cases h
    · exact .ownEvent s
    · exact .refl s
  · cases h; exact .refl s

theorem Rests.execHoldTimeExpiry {s t : State} (h : execHoldTimeExpiry s = .next t) : Rests s t := by
  unfold Machine.execHoldTimeExpiry at h
  split at h <;> cases h
  · exact .ownEvent s
  · exact .refl s

theorem Rests.acquire (s : State) : Rests s s.acquire := by
  unfold State.acquire
  split
  · exact Rests.trans {} (.setInput ..)
  · exact Rests.trans {} (.setInput ..)
  · exact Rests.trans {} (.setInput ..)
  all_goals exact .refl s

theorem Rests.cutRun (s : State) : Rests s s.cutRun := by
  unfold State.cutRun
  split <;> exact {}

theorem Rests.fillStep (w : Nat) (s : State) : Rests s (s.fillStep w) :=
  ((Rests.cutRun s).trans (.cutFrame _)).trans {}

theorem Rests.paceStep (l : Bool) (s : State) : Rests s (s.paceStep l) := by
  unfold State.paceStep
  split
  · split
    · exact .frameEvent ..
    · exact .refl s
  · split
    · exact .frameEvent ..
    · exact .refl s
  all_goals exact .refl s

theorem Rests.measure (n : Nat) (s : State) : Rests s (s.measure n) := by
  unfold State.measure
  split <;> exact {}

theorem Rests.sourceStart (o : FrameOpening) (n : Nat) (b : Bool) (s : State) : Rests s (s.sourceStart o n b) := by
  have hnote : Rests s ((s.measure n).noteStart o.bits) := (Rests.measure n s).trans {}
  unfold State.sourceStart
  dsimp only
  split
  · exact ((hnote.trans (.paceStep ..)).trans (.fillStep ..)).trans (.acquire _)
  · exact ((hnote.trans (.fillStep ..)).trans (.acquire _)).trans (.paceStep ..)

theorem Rests.execSourceFrameStart {o : FrameOpening} {n : Nat} {b : Bool} {s t : State}
    (h : execSourceFrameStart o n b s = .next t) : Rests s t := by
  unfold Machine.execSourceFrameStart at h
  split at h <;> cases h
  · exact (Rests.elapseTo _ _ s).trans (.sourceStart ..)
  · exact .sourceStart ..

theorem Rests.letGo (x : InputState) (s : State) : Rests s (s.setInput x).frameLetGo :=
  (Rests.setInput x s).trans {}

theorem Rests.lock (f : SourceFrame) (s : State) : Rests s ((s.setInput .locked).frameReady f) :=
  (Rests.setInput .locked s).trans {}

theorem Rests.completeFrame (z : Size) (f : SourceFrame) (s : State) : Rests s (s.completeFrame z f) := by
  have again : Rests s (((s.setCandidate z).setInput .acquiring).frameLetGo) :=
    Rests.trans {} (.letGo ..)
  unfold State.completeFrame
  split
  · split
    · exact Rests.trans {} (.lock ..)
    · exact {}
  · split
    · exact {}
    · exact again
  · exact again
  all_goals exact {}

theorem Rests.outOfRangeFrame (z : Size) (s : State) : Rests s (s.outOfRangeFrame z) := by
  unfold State.outOfRangeFrame
  cases h : s.source.state <;> simp only [h]
  case acquiring => exact Rests.trans {} (.letGo ..)
  case locked => exact Rests.trans {} (.letGo ..)
  all_goals exact {}

theorem Rests.execSourceFrameEnd {lines : List (List Rgb)} {s t : State}
    (h : execSourceFrameEnd lines s = .next t) : Rests s t := by
  unfold Machine.execSourceFrameEnd at h
  split at h
  · split at h <;> cases h
    · exact .completeFrame ..
    · exact .outOfRangeFrame ..
    · exact (Rests.cutRun s).trans (.cutFrame _)
  · cases h; exact .refl s

theorem Rests.loseInput (s : State) : Rests s s.loseInput := by
  unfold State.loseInput
  split
  · dsimp only
    split
    · exact Rests.trans {} ((Rests.setInput .holding _).trans (.setInput ..))
    · exact Rests.trans {} (.setInput ..)
  · exact Rests.trans {} (.setInput ..)
  · exact .setInput ..
  all_goals exact .refl s

theorem Rests.execSourceLoss {s t : State} (h : execSourceLoss s = .next t) : Rests s t := by
  unfold Machine.execSourceLoss at h
  split at h <;> cases h
  · exact .refl s
  · exact (Rests.elapseTo _ _ s).trans (Rests.trans {} ((Rests.cutFrame _).trans (.loseInput _)))

/-! ## The Presence Monitor and the port lines -/

theorem Rests.execSinkDebounceExpiry {h : Head} {s t : State} (hx : execSinkDebounceExpiry h s = .next t) :
    Rests s t := by
  unfold Machine.execSinkDebounceExpiry at hx
  split at hx <;> cases hx
  · exact .refl s
  · exact (Rests.elapseTo _ _ s).trans (Rests.trans {} (.rederive h _))

theorem Rests.execPresenceExpiry {h : Head} {s t : State} (hx : execPresenceExpiry h s = .next t) : Rests s t := by
  unfold Machine.execPresenceExpiry at hx
  split at hx <;> cases hx
  · exact (Rests.elapseTo _ _ s).trans (.setPresence ..)
  · exact .refl s

theorem Rests.execClaimLapse {h : Head} {s t : State} (hx : execClaimLapse h s = .next t) : Rests s t := by
  unfold Machine.execClaimLapse at hx
  split at hx <;> cases hx
  · exact (Rests.elapseTo _ _ s).trans (.loseClaim ..)
  · exact .refl s

theorem Rests.execReceiveGapTimeout {p : Port} {s t : State} (h : execReceiveGapTimeout p s = .next t) : Rests s t := by
  unfold Machine.execReceiveGapTimeout at h
  split at h <;> cases h
  · exact .refl s
  · exact (Rests.elapseTo _ _ s).trans (.setAssembler ..)

theorem Rests.execLenOversize {p : Port} {len : Byte} {s t : State} (h : execLenOversize p len s = .next t) :
    Rests s t := by
  unfold Machine.execLenOversize at h
  split at h <;> cases h
  · exact .setAssembler ..
  · exact .refl s

/-- A reply that leaves its buffer leaves more room free. -/
theorem Serves.execReplySent {p : Port} {s t : State} (h : execReplySent p s = .next t) : Serves s t := by
  unfold Machine.execReplySent at h
  split at h <;> cases h
  · exact .refl s
  · rename_i r rest hr
    let u : State := { s with ports := s.ports.set p { s.ports.get p with replies := rest } }
    have hheld : ∀ q, (u.ports.get q).held ≤ (s.ports.get q).held := fun q => by
      simp only [u, PerPort.get_set]
      split
      · rename_i e
        subst e
        simp only [PortState.held, hr, List.map_cons, List.sum_cons]
        omega
      · exact Nat.le_refl _
    have hu := Serves.takeNext u
    refine ⟨Keeps.trans (Keeps.of_core (by rfl)) hu.toKeeps, fun hq => hu.queueing hq,
      fun _ => u.takeNext_executorLawful, fun hc => hu.coldStart hc, fun _ hl => ?_⟩
    exact State.takeNext_roomLawful fun q => (Nat.add_le_add_right (hheld q) _).trans (hl q)

/-! ## Saving -/

/-- While a save is in flight the cold start is over. -/
theorem State.started_of_saving {s : State} (hs : s.saving = true) (hc : s.coldStartLawful) : s.started = true := by
  rw [← Bool.not_eq_false]
  intro hn
  obtain ⟨-, -, hsave, -⟩ := hc hn
  exact absurd (hs.symm.trans hsave) (by decide)

/-- What a save's own event does: it changes nothing that the queue, the Executor and the buffers hold, and nothing at
all unless a save is in flight. -/
theorem Serves.of_saving {s t : State} (h : Traffic s t) (k : Keeps s t) (hs : s.saving = true) : Serves s t :=
  .of_traffic h k fun hc => (congrArg (· == StartPhase.ended) h.startPhase).trans (State.started_of_saving hs hc)

theorem Traffic.opEnds (s : State) : Traffic s s.opEnds := by
  unfold State.opEnds
  split <;> exact {}

theorem Traffic.saveGoesOn (x : SaveState) (s : State) : Traffic s (s.saveGoesOn x) := {}

theorem Serves.execSaveEraseDone {s t : State} (h : execSaveEraseDone s = .next t) : Serves s t := by
  have hk := Keeps.execSaveEraseDone h
  unfold Machine.execSaveEraseDone at h
  split at h
  · rename_i hx _
    have hs : s.saving = true := by simp [State.saving, hx, SaveState.inFlight]
    split at h <;> cases h
    · exact .of_saving (.saveGoesOn ..) hk hs
    · exact .of_saving (.saveGoesOn ..) hk hs
  · cases h; exact .refl s

theorem Serves.execSavePageProgrammed {s t : State} (h : execSavePageProgrammed s = .next t) : Serves s t := by
  have hk := Keeps.execSavePageProgrammed h
  unfold Machine.execSavePageProgrammed at h
  split at h
  · rename_i hx
    have hs : s.saving = true := by simp [State.saving, hx, SaveState.inFlight]
    split at h <;> cases h
    · exact .of_saving ((Traffic.opEnds s).trans (.saveGoesOn ..)) hk hs
    · exact .of_saving ((Traffic.opEnds s).trans (.saveGoesOn ..)) hk hs
  · cases h; exact .refl s

theorem Serves.execSaveHeaderProgrammed {s t : State} (h : execSaveHeaderProgrammed s = .next t) : Serves s t := by
  have hk := Keeps.execSaveHeaderProgrammed h
  unfold Machine.execSaveHeaderProgrammed at h
  split at h <;> cases h
  · rename_i hx
    exact .of_saving ((Traffic.opEnds s).trans (.saveGoesOn ..)) hk (by simp [State.saving, hx, SaveState.inFlight])
  · exact .refl s

theorem Traffic.endVerify (s : State) (l : List Byte) : Traffic s (s.endVerify l) := by
  unfold State.endVerify
  split
  · exact Traffic.trans {} (.endSave ..)
  · exact .endSave ..

theorem Serves.execSaveVerifyRead {read : FlashAnswer} {s t : State} (h : execSaveVerifyRead read s = .next t) :
    Serves s t := by
  have hk := Keeps.execSaveVerifyRead h
  unfold Machine.execSaveVerifyRead at h
  split at h
  · rename_i hx
    have hs : s.saving = true := by simp [State.saving, hx, SaveState.inFlight]
    dsimp only at h
    split at h
    · cases h; exact .refl s
    split at h
    · cases h; exact .of_saving (.endSave ..) hk hs
    split at h
    · cases h; exact .of_saving (.saveGoesOn ..) hk hs
    · cases h; exact .of_saving (.endVerify ..) hk hs
  · cases h; exact .refl s

theorem Serves.execSaveFlashTimeout {s t : State} (h : execSaveFlashTimeout s = .next t) : Serves s t := by
  have hk := Keeps.execSaveFlashTimeout h
  unfold Machine.execSaveFlashTimeout at h
  split at h <;> cases h
  · rename_i hs _
    exact .of_saving ((Rests.elapseTo _ _ s).toTraffic.trans (.endSave ..)) hk hs
  · exact .refl s

theorem Rests.execAbortedFlashOperationEnd {s t : State} (h : execAbortedFlashOperationEnd s = .next t) :
    Rests s t := by
  unfold Machine.execAbortedFlashOperationEnd at h
  split at h <;> cases h
  · exact .refl s
  · exact {}

/-! ## The long operations -/

/-- The claim is taken and the chunk runs; what is then written of the STAGED bank is not traffic. -/
theorem Carries.claimedChunk {s : State} (hi : s.inHand ≠ none) (p : Port) (h : Head) (count : Nat)
    (during : List Arrival) : Carries s ((s.setMesh h ((s.mesh.get h).takeClaim p)).chunk p count during).state :=
  (Carries.of_traffic {} (.takeClaim p h s)).trans
    (Carries.chunk (s := s.setMesh h ((s.mesh.get h).takeClaim p)) hi p count during)

theorem Carries.rewriteChunk {p : Port} {h : Head} {start count : Nat} {f : Nat → Node → Node} {during : List Arrival}
    {s : State} (hi : s.inHand ≠ none) : Carries s (Machine.rewriteChunk p h start count f during s).answer.state :=
  (Carries.claimedChunk hi p h count during).trans
    (.of_traffic {} (.setStaged h _ _ (rewriteRun_length ..) (rewriteRun_ok _ _ _ _)))

theorem rewriteChunk_room (p : Port) (h : Head) (start count : Nat) (f : Nat → Node → Node) (during : List Arrival)
    (s : State) : (rewriteChunk p h start count f during s).answer.body.length ≤ 240 := by
  simp [rewriteChunk, cursorBytes]

theorem examineLong_room {p : Port} {index : Nat} {during : List Arrival} {s : State} {rule : Head → LongAnswer}
    (h : ∀ k, (rule k).answer.body.length ≤ 240) : (examineLong p index during s rule).answer.body.length ≤ 240 := by
  unfold examineLong
  split
  · exact Nat.zero_le _
  split
  · exact Nat.zero_le _
  split
  · exact Nat.zero_le _
  split
  · exact Nat.zero_le _
  · exact h _

theorem Carries.answerMeshGenerate {during : List Arrival} {p : Port} {body : List Byte} {s : State}
    (hi : s.inHand ≠ none) : Carries s (answerMeshGenerate during p body s).answer.state := by
  refine .examineLong fun h => ?_
  dsimp only
  split
  · exact .rewriteChunk hi
  · exact .of_traffic (.refl s) (.refl s)

theorem Carries.answerMeshShift {during : List Arrival} {p : Port} {body : List Byte} {s : State}
    (hi : s.inHand ≠ none) : Carries s (answerMeshShift during p body s).answer.state := by
  refine .examineLong fun h => ?_
  dsimp only
  split
  · exact .rewriteChunk hi
  · exact .of_traffic (.refl s) (.refl s)

theorem Carries.answerMeshCopy {during : List Arrival} {p : Port} {body : List Byte} {s : State}
    (hi : s.inHand ≠ none) : Carries s (answerMeshCopy during p body s).answer.state := by
  refine .examineLong fun h => ?_
  dsimp only
  split
  · exact .of_traffic (.refl s) (.refl s)
  split
  · exact (Carries.claimedChunk hi p h _ during).trans (.of_traffic {}
      (.setStaged_of_banks _ _ _ (State.copied_length ..) fun hb => State.copied_ok hb _ _ _ _ _ _))
  · exact .of_traffic (.refl s) (.refl s)

theorem answerMeshGenerate_room (during : List Arrival) (p : Port) (body : List Byte) (s : State) :
    (answerMeshGenerate during p body s).answer.body.length ≤ 240 := by
  refine examineLong_room fun h => ?_
  dsimp only
  split
  · exact rewriteChunk_room ..
  · exact Nat.zero_le _

theorem answerMeshShift_room (during : List Arrival) (p : Port) (body : List Byte) (s : State) :
    (answerMeshShift during p body s).answer.body.length ≤ 240 := by
  refine examineLong_room fun h => ?_
  dsimp only
  split
  · exact rewriteChunk_room ..
  · exact Nat.zero_le _

theorem answerMeshCopy_room (during : List Arrival) (p : Port) (body : List Byte) (s : State) :
    (answerMeshCopy during p body s).answer.body.length ≤ 240 := by
  refine examineLong_room fun h => ?_
  dsimp only
  split
  · exact Nat.zero_le _
  split
  · simp [cursorBytes]
  · exact Nat.zero_le _

/-! ## Every command and every step -/

/-- Every command keeps the laws of the queue, the Executor, the cold start and the reply room. -/
theorem exec_serves {c : Instr} {s t : State} (h : exec c s = .next t) : Serves s t := by
  have hk := exec_keeps h
  cases c with
  | coldReset straps => cases h; exact .cold _ _ _ _ s hk
  | flashIdentifyAnswered ident => exact .execFlashIdentifyAnswered h
  | headerReadAnswered read => exact .execHeaderReadAnswered h
  | bodyReadAnswered read => exact .execBodyReadAnswered h
  | startupFlashTimeout => exact .execStartupFlashTimeout h
  | framePeriodExpiry => exact .of_rests (.execFramePeriodExpiry h) hk
  | followTimeout => exact .of_rests (.execFollowTimeout h) hk
  | fadeSettle slot => exact .of_rests (.execFadeSettle h) hk
  | holdTimeExpiry => exact .of_rests (.execHoldTimeExpiry h) hk
  | sourceFrameStart o n b => exact .of_rests (.execSourceFrameStart h) hk
  | sourceFrameEnd lines => exact .of_rests (.execSourceFrameEnd h) hk
  | sourceLoss => exact .of_rests (.execSourceLoss h) hk
  | detectLineChange k level => cases h; exact .of_rests {} hk
  | sinkDebounceExpiry k => exact .of_rests (.execSinkDebounceExpiry h) hk
  | presenceExpiry k => exact .of_rests (.execPresenceExpiry h) hk
  | claimLapse k => exact .of_rests (.execClaimLapse h) hk
  | packetReceived p bytes => cases h; exact .receive ..
  | receiveGapTimeout p => exact .of_rests (.execReceiveGapTimeout h) hk
  | brokenByte p => cases h; exact .setAssembler ..
  | lenOversize p len => exact .of_rests (.execLenOversize h) hk
  | replySent p => exact .execReplySent h
  | status p tag body =>
    exact .request_proper (answerStatus_proper p body)
      (fun u => .of_eq (answerStatus_state p body u)) h
  | noticeRead p tag body => exact .request_proper (answerNoticeRead_proper p body) (.answerNoticeRead p body) h
  | noticeMask p tag body => exact .request_proper (answerNoticeMask_proper p body) (.answerNoticeMask p body) h
  | restart p tag body => exact .request (.answerRestart p body) (fun _ _ => Nat.zero_le _) h
  | outputSetup p tag body => exact .request_proper (answerOutputSetup_proper p body) (.answerOutputSetup p body) h
  | outputStart p tag body => exact .request_proper (answerOutputStart_proper p body) (.answerOutputStart p body) h
  | outputStop p tag body => exact .request_proper (answerOutputStop_proper p body) (.answerOutputStop p body) h
  | headSetup p tag body => exact .request_proper (answerHeadSetup_proper p body) (.answerHeadSetup p body) h
  | headQuery p tag body =>
    exact .request_proper (answerHeadQuery_proper p body)
      (fun u => .of_eq (answerHeadQuery_state p body u)) h
  | headMode p tag body => exact .request_proper (answerHeadMode_proper p body) (.answerHeadMode p body) h
  | meshWrite p tag body => exact .request_proper (answerMeshWrite_proper p body) (.answerMeshWrite p body) h
  | meshRead p tag body =>
    exact .request_proper (answerMeshRead_proper p body)
      (fun u => .of_eq (answerMeshRead_state p body u)) h
  | meshCommit p tag body => exact .request_proper (answerMeshCommit_proper p body) (.answerMeshCommit p body) h
  | meshDiscard p tag body => exact .request_proper (answerMeshDiscard_proper p body) (.answerMeshDiscard p body) h
  | meshHold p tag body => exact .request_proper (answerMeshHold_proper p body) (.answerMeshHold p body) h
  | meshQuery p tag body =>
    exact .request_proper (answerMeshQuery_proper p body)
      (fun u => .of_eq (answerMeshQuery_state p body u)) h
  | meshGenerate p tag body during =>
    exact .requestLong (fun _ => .answerMeshGenerate) (answerMeshGenerate_room during p body) h
  | meshShift p tag body during => exact .requestLong (fun _ => .answerMeshShift) (answerMeshShift_room during p body) h
  | meshCopy p tag body during => exact .requestLong (fun _ => .answerMeshCopy) (answerMeshCopy_room during p body) h
  | seamDefine p tag body => exact .request_proper (answerSeamDefine_proper p body) (.answerSeamDefine p body) h
  | seamDelete p tag body => exact .request_proper (answerSeamDelete_proper p body) (.answerSeamDelete p body) h
  | seamQuery p tag body =>
    exact .request_proper (answerSeamQuery_proper p body)
      (fun u => .of_eq (answerSeamQuery_state p body u)) h
  | seamPin p tag body => exact .request_proper (answerSeamPin_proper p body) (.answerSeamPin p body) h
  | seamFades p tag body => exact .request_proper (answerSeamFades_proper p body) (.answerSeamFades p body) h
  | curveWrite p tag body => exact .request_proper (answerCurveWrite_proper p body) (.answerCurveWrite p body) h
  | curveRead p tag body =>
    exact .request_proper (answerCurveRead_proper p body)
      (fun u => .of_eq (answerCurveRead_state p body u)) h
  | headState p tag body => exact .request_proper (answerHeadState_proper p body) (.answerHeadState p body) h
  | presenceSetup p tag body => exact .request_proper (answerPresenceSetup_proper p body) (.answerPresenceSetup p body) h
  | tableWrite p tag body => exact .request_proper (answerTableWrite_proper p body) (.answerTableWrite p body) h
  | tableRead p tag body =>
    exact .request_proper (answerTableRead_proper p body)
      (fun u => .of_eq (answerTableRead_state p body u)) h
  | tableCommit p tag body => exact .request_proper (answerTableCommit_proper p body) (.answerTableCommit p body) h
  | liftSet p tag body => exact .request_proper (answerLiftSet_proper p body) (.answerLiftSet p body) h
  | sourceQuery p tag body => exact .request_proper (answerSourceQuery_proper p body) (.answerSourceQuery p body) h
  | holdSetup p tag body => exact .request_proper (answerHoldSetup_proper p body) (.answerHoldSetup p body) h
  | layoutRead p tag body =>
    exact .request_proper (answerLayoutRead_proper p body)
      (fun u => .of_eq (answerLayoutRead_state p body u)) h
  | layoutApply p tag body => exact .request_proper (answerLayoutApply_proper p body) (.answerLayoutApply p body) h
  | save p tag body => exact .request_proper (answerSave_proper p body) (.answerSave p body) h
  | saveEraseDone => exact .execSaveEraseDone h
  | savePageProgrammed => exact .execSavePageProgrammed h
  | saveHeaderProgrammed => exact .execSaveHeaderProgrammed h
  | saveVerifyRead read => exact .execSaveVerifyRead h
  | saveFlashTimeout => exact .execSaveFlashTimeout h
  | abortedFlashOperationEnd => exact .of_rests (.execAbortedFlashOperationEnd h) hk

/-- Every step keeps the laws of the queue, the Executor, the cold start and the reply room. -/
theorem step_serves {s t : State} (h : step s = .next t) : Serves s t := by
  unfold step at h
  split at h
  · cases h
    exact .elapse 1 s
  · exact Serves.trans (Serves.of_rests (by exact {}) (.of_core (by rfl))) (exec_serves h)

end Sys2Proof.Machine

/-! PROVES. What every step keeps of the queue, the Executor, the cold start and the reply buffers. -/

namespace Sys2Proof

open Sys2Proof.Machine

/-- Settles O13: every command keeps the bounds of the queue, the law of the free Executor and that of the cold
start. -/
theorem queueLawsKept : Obligations.QueueLawsKept := fun _ _ h =>
  ⟨(step_serves h).queueing, (step_serves h).executor, (step_serves h).coldStart⟩

/-- Settles O14: every reply enters into the room set aside for it. -/
theorem roomLawKept : Obligations.RoomLawKept := fun _ _ h => (step_serves h).room

end Sys2Proof

/-! SUPPORT. Steps and ticks, the reset state, requests that are refused, packets and their assembly. -/

namespace Sys2Proof.Machine

/-! ## Requests refused -/

/-- A request in hand whose rule refuses it is answered with the status alone. -/
theorem State.request_refused {k : Kind} {f : Port → List Byte → State → Answer} {p : Port} {tag : Byte}
    {body : List Byte} {s : State} {st : Status} (h : s.hasInHand k p tag body) (ha : s.authorised k p body = true)
    (hf : f p body s = refuse s st) (hst : st.carried = false) :
    s.request k f p tag body = .next (s.answered p ⟨tag, st, []⟩) := by
  rw [State.request_allowed h ha, hf]
  simp [refuse, hst]

/-- The command of a request in hand without authority is answered DENIED. -/
theorem exec_denied {k : Kind} {p : Port} {tag : Byte} {body : List Byte} {s : State} (h : s.hasInHand k p tag body)
    (ha : s.authorised k p body = false) :
    exec (k.command p tag body) s = .next (s.answered p ⟨tag, .denied, []⟩) := by
  rcases command_is_request k p tag body with ⟨f, e⟩ | ⟨f, e⟩ <;> rw [e]
  · exact State.request_denied h ha
  · exact State.requestLong_denied h ha

/-! ## The whole square root -/

/-- The bits below 2^b of the whole square root are found one after another. -/
theorem sqrtBits_eq (n : Nat) : ∀ b r, r * r ≤ n → n < (r + 2 ^ b) * (r + 2 ^ b) → sqrtBits n b r = Nat.sqrt n
  | 0, r, hl, hu => by
    rw [sqrtBits]
    exact Nat.eq_sqrt.2 ⟨hl, hu⟩
  | b + 1, r, hl, hu => by
    rw [sqrtBits]
    have hsplit : 2 ^ (b + 1) = 2 ^ b + 2 ^ b := by rw [pow_succ]; omega
    split
    · exact sqrtBits_eq n b _ ‹_› (by rwa [Nat.add_assoc, ← hsplit])
    · exact sqrtBits_eq n b r hl (by omega)

theorem wholeSqrt_eq {n : Nat} (h : n < 2 ^ 26) : wholeSqrt n = Nat.sqrt n :=
  sqrtBits_eq n 13 0 (Nat.zero_le _) (by omega)

/-! ## Claims and hearing -/

theorem HeadMesh.restartTimer_eq (p : Port) (m : HeadMesh) : m.restartTimer p =
    if m.claim.map Claim.owner = some p ∧ m.commitPending = false then { m with claim := some ⟨p, 0⟩ } else m := by
  unfold HeadMesh.restartTimer
  cases h : m.claim <;> simp

/-- The state after the timers that a packet on a port restarts, and its hearing (R85, R165). -/
def State.heard (p : Port) (s : State) : State :=
  match p with
  | .head k => (s.restartClaims p).hear k
  | .ap => s.restartClaims p

theorem State.heard_started (p : Port) (s : State) : (s.heard p).started = s.started := by
  cases p <;> simp [State.heard, State.started]

/-- A packet is heard, and then answered or admitted by the first test that applies (R165). -/
theorem State.packetArrives_eq (p : Port) (tag kind : Byte) (body : List Byte) (s : State) :
    s.packetArrives p tag kind body = if s.started = false then (s.heard p).immediate p tag .wait
      else match Kind.ofCode? kind with
      | none => (s.heard p).immediate p tag .unknown
      | some k => if k.lengthOk body = false then (s.heard p).immediate p tag .malformed
        else if (s.heard p).admits p body then
          ({ s.heard p with queue := (s.heard p).queue ++ [Entry.mk p tag kind body] }).takeNext
        else (s.heard p).immediate p tag .wait := by
  rw [← State.heard_started p s]
  cases p <;> rfl

/-! ## Packets byte by byte (R161) -/

@[simp] theorem State.setAssembler_get (p : Port) (a : Assembler) (s : State) :
    ((s.setAssembler p a).ports.get p).assembler = a := by simp [State.setAssembler]

@[simp] theorem State.setAssembler_twice (p : Port) (a b : Assembler) (s : State) :
    (s.setAssembler p a).setAssembler p b = s.setAssembler p b := by simp [State.setAssembler]

/-- The bytes of a packet from its TAG up to the first CHECK byte are taken one after another. -/
theorem State.receive_within (p : Port) (len : Byte) (s : State) : ∀ (l taken : List Byte),
    taken.length + l.length < len.toNat + 4 →
    (s.setAssembler p (.packet (len :: taken) 0)).receive p l = s.setAssembler p (.packet (len :: (taken ++ l)) 0)
  | [], taken, _ => by simp [State.receive]
  | b :: l, taken, h => by
    have hb : State.receiveByte p (s.setAssembler p (.packet (len :: taken) 0)) b =
        s.setAssembler p (.packet (len :: (taken ++ [b])) 0) := by
      have hlen : taken.length ≠ len.toNat + 3 := by
        simp only [List.length_cons] at h
        omega
      simp [State.receiveByte, Config.gapTicks, hlen]
    have ih := State.receive_within p len s l (taken ++ [b]) (by simp at h ⊢; omega)
    simp only [State.receive, List.foldl_cons] at ih ⊢
    rw [hb, ih, List.append_assoc, List.singleton_append]

/-- A whole packet on a hunting port, to its check. -/
theorem State.receive_packet (p : Port) (tag kind hi lo : Byte) (body : List Byte) (s : State)
    (hs : (s.ports.get p).assembler = .hunt) (hb : body.length ≤ 240) :
    s.receive p (0xA5 :: (be1 body.length ++ [tag, kind] ++ body) ++ [hi, lo]) =
      s.packetEnds p (be1 body.length ++ [tag, kind] ++ body ++ [hi, lo]) := by
  let len : Byte := BitVec.ofNat 8 body.length
  have hlen : len.toNat = body.length := by simp [len]; omega
  have hfirst : State.receiveByte p (State.receiveByte p s 0xA5) len = s.setAssembler p (.packet [len] 0) := by
    have h240 : ¬ 240 < len.toNat := by omega
    simp [State.receiveByte, hs, State.hunt, Config.gapTicks, h240, u8]
  have hmid := State.receive_within p len s (tag :: kind :: body ++ [hi]) [] (by simp; omega)
  have hlast : State.receiveByte p (s.setAssembler p (.packet (len :: (tag :: kind :: body ++ [hi])) 0)) lo =
      s.packetEnds p (len :: (tag :: kind :: body ++ [hi]) ++ [lo]) := by
    have hlen' : (len :: (tag :: kind :: body ++ [hi]) ++ [lo]).length =
        u8 (len :: (tag :: kind :: body ++ [hi]) ++ [lo]) 0 + 5 := by
      simp [u8]
      omega
    simp only [State.receiveByte, State.setAssembler_get, Config.gapTicks, State.setAssembler_twice, hlen', if_true,
      State.setAssembler_hunt p s hs]
    simp
  calc s.receive p (0xA5 :: (be1 body.length ++ [tag, kind] ++ body) ++ [hi, lo])
      = State.receiveByte p ((State.receiveByte p (State.receiveByte p s 0xA5) len).receive p
          (tag :: kind :: body ++ [hi])) lo := by
        simp [State.receive, be1, len, List.foldl_append]
    _ = s.packetEnds p (len :: (tag :: kind :: body ++ [hi]) ++ [lo]) := by
        rw [hfirst, hmid, List.nil_append, hlast]
    _ = _ := by simp [be1, len]

/-- The check of a whole packet decides. -/
theorem State.packetEnds_eq (p : Port) (tag kind hi lo : Byte) (body : List Byte) (s : State)
    (hb : body.length ≤ 240) : s.packetEnds p (be1 body.length ++ [tag, kind] ++ body ++ [hi, lo]) =
      if (crc (be1 body.length ++ [tag, kind] ++ body)).toNat = hi.toNat * 256 + lo.toNat then
        s.packetArrives p tag kind body else s.immediate p tag .checkfail := by
  have hlen : u8 (be1 body.length ++ [tag, kind] ++ body ++ [hi, lo]) 0 = body.length := by
    simp [u8, be1]
    omega
  have htake : (be1 body.length ++ [tag, kind] ++ body ++ [hi, lo]).take (body.length + 3) =
      be1 body.length ++ [tag, kind] ++ body := by
    rw [List.take_append_of_le_length (by simp; omega), List.take_of_length_le (by simp; omega)]
  have hcheck : u16 (be1 body.length ++ [tag, kind] ++ body ++ [hi, lo]) (body.length + 3) =
      hi.toNat * 256 + lo.toNat := by
    have hl : (be1 body.length ++ [tag, kind] ++ body).length = body.length + 3 := by simp; omega
    rw [u16_append_right _ _ _ hl.le, hl, Nat.sub_self]
    simp [u16]
  unfold State.packetEnds
  simp only [hlen, htake, hcheck]
  simp [be1]
  rfl

end Sys2Proof.Machine

/-! PROVES. Steps and reset, requests that come in, packets, the Executor, refusals. -/

namespace Sys2Proof

open Sys2Proof.Machine

/-- Settles O6: the bytes are taken one after another, and the check decides. -/
theorem packetAssembled : Obligations.PacketAssembled := by
  intro p tag kind body s hs hb
  have h : ∀ hi lo : Byte, exec (.packetReceived p (0xA5 :: (be1 body.length ++ [tag, kind] ++ body) ++ [hi, lo])) s =
      .next (if (crc (be1 body.length ++ [tag, kind] ++ body)).toNat = hi.toNat * 256 + lo.toNat then
        s.packetArrives p tag kind body else s.immediate p tag .checkfail) := fun hi lo => by
    rw [← State.packetEnds_eq p tag kind hi lo body s hb, ← State.receive_packet p tag kind hi lo body s hs hb]
    rfl
  refine ⟨?_, fun hi lo hne => ?_⟩
  · unfold requestWire
    rw [be2, h, if_pos]
    have := (crc (be1 body.length ++ [tag, kind] ++ body)).isLt
    simp only [BitVec.toNat_ofNat]
    omega
  · rw [h hi lo, if_neg (Ne.symm hne)]


/-- Settles O1: a step takes the front command off the queue and runs it. -/
theorem frontCommandRuns : Obligations.FrontCommandRuns := fun _ _ _ => rfl

/-- Settles O2: one tick is `elapse 1`, field by field. -/
theorem emptyQueueTick : Obligations.EmptyQueueTick := by
  intro s hs
  refine ⟨s.elapse 1, by simp [step, hs], rfl, fun h => ?_, fun p f e h => ?_, fun h => ⟨?_, fun n hn => ?_, fun hn => ?_⟩,
    fun h => ?_, fun p => ⟨?_, fun h => ?_, fun l g h => ?_⟩⟩
  · simp [h, Timing.elapse]
  · simp [h, Timing.elapse]
  · simp [Monitor.elapse]
  · simp [Monitor.elapse, Presence.elapse, hn]
  · cases hp : (s.monitor.get h).presence <;> simp [Monitor.elapse, Presence.elapse, hp]
    exact hn _ hp
  · simp only [State.elapse_mesh, Quad.get_map, HeadMesh.elapse]
    split <;> rfl
  · simp [PortState.elapse]
  · simp [PortState.elapse, Assembler.elapse, h]
  · simp [PortState.elapse, Assembler.elapse, h]

/-- Settles O3: the cold-reset values, with the encode table by the whole square root. -/
theorem resetValues : Obligations.ResetValues := by
  have hencode : defaultEncode = (List.range 257).map fun k => min 4095 (Nat.sqrt (65536 * k)) :=
    List.map_congr_left fun k hk => by
      rw [List.mem_range] at hk
      rw [wholeSqrt_eq (by omega)]
  refine ⟨rfl, rfl, rfl, fun h => ?_, fun h => ?_, fun h => ?_, by decide, fun sl => ?_, fun n h3 h7 => ?_, rfl,
    fun h => ?_, rfl, fun h => ?_, rfl, rfl, rfl, rfl, rfl, fun p => ?_, rfl, rfl, rfl, rfl⟩
  · cases h <;> rfl
  · cases h <;> exact ⟨rfl, rfl, rfl, rfl⟩
  · rw [show State.reset.mesh.get h = HeadMesh.flat .cold .canvas from Quad.get_const _ h]
    cases h <;> rfl
  · exact Quad.get_const none sl
  · interval_cases n <;> rfl
  · exact (Quad.get_const defaultEncode h).trans hencode
  · exact Quad.get_const none h
  · have hp : State.reset.ports.get p = PortState.cold := PerPort.get_const _ p
    exact ⟨hp, by simp [State.attention, hp, PortState.attention, PortState.cold]⟩

/-- Settles O4: a cold reset meets every law. -/
theorem resetMeetsLaws : Obligations.ResetMeetsLaws :=
  ⟨State.cold_queueLawful .., State.cold_roomLawful _ _ _ _, State.cold_executorLawful _ _ _ _,
    State.cold_coldStartLawful _ _ _ _, State.cold_contributionsLawful _ _ _ _, State.cold_monitorsLawful _ _ _ _,
    State.cold_landingsLawful _ _ _ _, State.cold_banksLawful _ _ _ _, State.cold_claimsLawful _ _ _ _,
    State.cold_fadesLawful _ _ _ _, State.cold_bandsLawful _ _ _ _, State.cold_tablesLawful _ _ _ _,
    State.cold_curvesLawful _ _ _ _, State.cold_countersLawful _ _ _ _, State.cold_settingsLawful _ _ _ _,
    State.cold_buffersLawful _ _ _ _, State.cold_viewsLawful _ _ _ _,
    List.length_replicate⟩

/-- Settles O5: a request that is not in hand is what `comeIn` brings in. -/
theorem requestComesIn : Obligations.RequestComesIn := by
  intro k p tag body s u hnot hunts hcome hstay
  have hh : hunts ↔ (s.ports.get p).assembler.hunting = true := by
    cases ha : (s.ports.get p).assembler with
    | hunt => simp [hunts, ha, Assembler.hunting]
    | packet l g =>
      simp only [hunts, ha, Assembler.hunting, reduceCtorEq, false_or, Assembler.packet.injEq]
      exact ⟨fun ⟨_, _, ⟨_, e⟩, h⟩ => decide_eq_true (e ▸ h), fun h => ⟨l, g, ⟨rfl, rfl⟩, of_decide_eq_true h⟩⟩
  have hu : u = s.comeIn p tag k body := by
    rcases State.comeIn_cases p tag k body s with ⟨h1, h2, e⟩ | ⟨hn, e⟩ <;> rw [e]
    · exact hcome ⟨hh.2 h1, h2⟩
    · exact hstay fun h => hn ⟨hh.1 h.1, h.2⟩
  unfold State.hasInHand at hnot
  constructor
  · rintro ⟨hfree, hin⟩
    rw [hu] at hin ⊢
    unfold State.hasInHand at hin
    rcases command_is_request k p tag body with ⟨f, e⟩ | ⟨f, e⟩
    · simp [e, State.request, hfree, hin]
    · simp [e, State.requestLong, hfree, hin]
  · intro hn
    rw [hu] at hn ⊢
    unfold State.hasInHand at hn
    rcases command_is_request k p tag body with ⟨f, e⟩ | ⟨f, e⟩
    · simp only [e, State.request, hnot, if_false, hn]
    · simp only [e, State.requestLong, hnot, if_false, hn, State.receiveAll_nil]

/-- Settles O7: the state after hearing, and the first test that applies. -/
theorem packetArrival : Obligations.PacketArrival := by
  intro p tag kind body s u v heard hap hunwatched hpresent hgone room
  have hv : s.restartClaims p = v := by
    have : s.mesh.map (·.restartTimer p) = Quad.ofFn fun h =>
        if (s.mesh.get h).claim.map Claim.owner = some p ∧ (s.mesh.get h).commitPending = false then
          { s.mesh.get h with claim := some ⟨p, 0⟩ } else s.mesh.get h := Quad.ext_get fun h => by
      rw [Quad.get_map, Quad.get_ofFn, HeadMesh.restartTimer_eq]
    simp only [State.restartClaims, this, v]
  have hu : s.heard p = u := by
    cases p with
    | ap => exact hv.trans (hap rfl).symm
    | head k =>
      have hm : v.monitor = s.monitor := rfl
      simp only [State.heard, hv, State.hear, hm]
      split
      · exact (hunwatched k rfl ‹_›).symm
      · exact (hpresent k _ rfl ‹_›).symm
      · exact (hgone k rfl (.inl ‹_›)).symm
      · exact (hgone k rfl (.inr ‹_›)).symm
  have hroom : u.admits p body = true ↔ room := State.admits_iff ..
  rw [State.packetArrives_eq, hu]
  refine ⟨fun hs => by simp [hs], fun hs hk => ?_, fun k hs hk hl => ?_, fun k hs hk hl => ⟨fun hr => ?_, fun hr => ?_⟩,
    fun st => ⟨fun h => if_pos h, fun h => if_neg (Nat.not_le.2 h)⟩⟩
  · simp [hs, Kind.ofCode?_eq_none.2 hk]
  · subst hk
    simp [hs, Kind.lengthOk, hl]
  · subst hk
    simp [hs, Kind.lengthOk, hl, hroom.2 hr]
  · subst hk
    simp [hs, Kind.lengthOk, hl, mt hroom.1 hr]

/-- Settles O8: the gap, the late byte, the broken byte, the oversize LEN and the sent reply. -/
theorem portLines : Obligations.PortLines := by
  refine ⟨fun p l g s h => ?_, fun p l g b s h hg => ?_, fun p s => rfl, fun p g s len h hl => ?_, fun p r rest s h => ?_⟩
  · simp [exec, execReceiveGapTimeout, h, State.elapseTo, State.setAssembler, Config.gapTicks]
  · have hgap : Config.gapTicks ≤ g := hg
    simp [exec, execPacketReceived, State.receive, State.receiveByte, h, hgap, State.hunt, State.setAssembler]
  · simp [exec, execLenOversize, h, Assembler.state, hl, State.setAssembler]
  · simp [exec, execReplySent, h]

/-- Settles O9: the Executor's look at the queue once the reply has entered. -/
theorem answeredTakesNext : Obligations.AnsweredTakesNext := by
  refine ⟨fun p r s => ?_, fun p h s => ?_⟩
  · intro u
    have hu : s.answered p r = u.takeNext := rfl
    rw [hu]
    rcases u.takeNext_cases with ⟨e, hb | hn⟩ | ⟨before, e, after, _, hq, hb, he, ht⟩
    · exact absurd rfl hb
    · exact .inl ⟨e, hn⟩
    · exact .inr ⟨before, e, after, hq, hb, he, ht⟩
  · simp only [State.touch, HeadMesh.restartTimer_eq]

/-- Settles O10: each of the five reasons leaves the port without authority. -/
theorem unauthorisedDenied : Obligations.UnauthorisedDenied := by
  intro k j tag body s h hk
  refine exec_denied h ?_
  have hhead : u8 body 0 ≠ j.toNat → Idx4.ofNat? (u8 body 0) ≠ some j := fun hne he =>
    hne (Idx4.ofNat?_eq_some.1 he)
  simp only [List.mem_cons, List.not_mem_nil, or_false] at hk
  rcases hk with hk | ⟨hk, hne⟩ | ⟨hk, hhold⟩ | ⟨rfl, hne⟩ | ⟨rfl, hne⟩
  · rcases hk with rfl | rfl | rfl | rfl | rfl | rfl | rfl | rfl | rfl | rfl | rfl | rfl | rfl | rfl | rfl | rfl |
      rfl | rfl <;> rfl
  · rcases hk with rfl | rfl | rfl | rfl | rfl | rfl | rfl | rfl <;>
      simp [State.authorised, kindHead?, hhead hne]
  · rcases hk with rfl | rfl | rfl | rfl | rfl | rfl <;> simp [State.authorised, hhold]
  · simp [State.authorised, hne]
  · simp [State.authorised, hne]

/-- Settles O11: each of these rules first asks whether a save is in flight. -/
theorem saveRefuses : Obligations.SaveRefuses := by
  intro k tag body s h hs hk
  simp only [List.mem_cons, List.not_mem_nil, or_false] at hk
  rcases hk with rfl | rfl | rfl | rfl | rfl | rfl | rfl | rfl | rfl | rfl | rfl | rfl | rfl | rfl <;>
    exact State.request_refused h rfl (if_pos hs) rfl

end Sys2Proof

/-! SUPPORT. The answers of a request in hand by its head; what an output frame start and a stop leave. -/

namespace Sys2Proof.Machine

/-! ## The answer of a request in hand -/

/-- A request that names no head is answered as its rule says. -/
theorem State.request_answered {k : Kind} {f : Port → List Byte → State → Answer} {p : Port} {tag : Byte}
    {body : List Byte} {s u : State} {st : Status} {r : List Byte} (h : s.hasInHand k p tag body)
        (ha : s.authorised k p body = true)
    (hf : f p body s = ⟨u, st, r⟩) (hk : kindHead? k body = none) :
    s.request k f p tag body = .next (u.answered p ⟨tag, st, r⟩) := by
  rw [State.request_allowed h ha, hf, hk]
  simp [State.touch]

/-- A request carried out on a head restarts the lapse timer of its owner there. -/
theorem State.request_carried {k : Kind} {f : Port → List Byte → State → Answer} {p : Port} {tag : Byte}
    {body : List Byte} {s u : State} {st : Status} {r : List Byte} {n : Head} (h : s.hasInHand k p tag body)
    (ha : s.authorised k p body = true) (hf : f p body s = ⟨u, st, r⟩)
    (hk : kindHead? k body = some n) (hc : st.carried = true) :
    s.request k f p tag body = .next ((u.touch (some n) p).answered p ⟨tag, st, r⟩) := by
  rw [State.request_allowed h ha, hf, hk, if_pos hc]

/-! ## Codes -/

@[simp] theorem Rate.ofCode?_code (r : Rate) : Rate.ofCode? r.code = some r := by
  cases r with
  | source => rfl
  | fixed f => cases f <;> rfl

theorem Rate.ofCode?_eq_none {n : Nat} (h : 9 < n) : Rate.ofCode? n = none := by
  obtain ⟨k, rfl⟩ := Nat.exists_eq_add_of_lt h
  rw [Nat.add_right_comm, Nat.add_comm]
  rfl

theorem bool?_eq_none {n : Nat} : bool? n = none ↔ 1 < n := by
  match n with
  | 0 => simp [bool?]
  | 1 => simp [bool?]
  | n + 2 => simp [bool?]

theorem bool?_of_le {n : Nat} (h : n ≤ 1) : bool? n = some (decide (n = 1)) := by
  interval_cases n <;> rfl

/-! ## Notices of several kinds at once -/

theorem State.withNotices_withNotices (a b : NoticeSet) (s : State) :
    (s.withNotices a).withNotices b = s.withNotices (a ||| b) := by
  have h : (s.ports.map fun q => { q with notices := q.notices ||| a }).map (fun q => { q with notices := q.notices ||| b }) =
      s.ports.map fun q => { q with notices := q.notices ||| (a ||| b) } := PerPort.ext_get fun p => by
    simp [PerPort.get_map, BitVec.or_assoc]
  simp only [State.withNotices, h]

/-! ## The output frame start -/

theorem State.outputFrameStart_mesh (s : State) : s.outputFrameStart.mesh = s.landAll.mesh := by
  simp [State.outputFrameStart, forEach]

theorem State.outputFrameStart_seams (s : State) (sl : Slot) :
    s.outputFrameStart.seams.get sl = (s.seams.get sl).map fun q => q.advance.1 := by
  have h : s.outputFrameStart.seams = (forEach State.advanceFade s.landAll).seams := by simp [State.outputFrameStart]
  rw [h, State.advanceFades_get]
  simp

theorem State.outputFrameStart_published (s : State) : s.outputFrameStart.published =
    some (s.outputFrameStart.seams.map fun q => q.map fun q => ⟨q.mode, q.fade⟩) := by
  simp [State.outputFrameStart]

theorem State.outputFrameStart_source (s : State) : s.outputFrameStart.source = s.advanceHold.source := by
  simp [State.outputFrameStart, State.advanceHold_source, forEach]

/-- The state from which the buffer of an output frame start is chosen. -/
def State.framed (s : State) : State := (forEach State.advanceFade s.landAll).publish.advanceHold

theorem State.outputFrameStart_eq (s : State) : s.outputFrameStart = s.framed.chooseBuffer.takeViews := rfl

theorem State.framed_source (s : State) : s.framed.source = s.outputFrameStart.source := by
  simp [State.outputFrameStart_eq]

theorem State.framed_buffers (s : State) : s.framed.buffers = s.buffers := by
  simp [State.framed, forEach]

theorem State.framed_repeated (s : State) : s.framed.repeated = s.repeated := by
  simp [State.framed, forEach]

theorem State.outputFrameStart_buffers (s : State) : s.outputFrameStart.buffers = s.framed.chooseBuffer.buffers := rfl

theorem State.outputFrameStart_repeated (s : State) :
    s.outputFrameStart.repeated = s.framed.chooseBuffer.repeated := rfl

theorem State.outputFrameStart_view (s : State) (h : Head) :
    s.outputFrameStart.views.get h = some (s.outputFrameStart.viewOf h) := by
  simp [State.outputFrameStart_eq, State.viewOf]

/-- An output frame start raises MESH_LANDED of what lands, SEAM_SETTLED of what settles, SOURCE_CHANGED where the
hold ends. -/
theorem State.outputFrameStart_noticed (s : State) : s.noticed s.outputFrameStart fun k =>
    ((∃ h, ((s.mesh.get h).commitPending = true ∧ s.saving = false) ∧ k = h.toNat) ∨
      ∃ sl q, s.seams.get sl = some q ∧ q.advance.2 = true ∧ k = 12 + sl.toNat) ∨
      (s.source.state = .holding ∧ s.source.holdTime < s.source.holdCount + 1) ∧ k = 16 := by
  have hfades : s.landAll.noticed (forEach State.advanceFade s.landAll).publish fun k =>
      ∃ sl q, s.seams.get sl = some q ∧ q.advance.2 = true ∧ k = 12 + sl.toNat := by
    have := State.advanceFades_noticed s.landAll
    simp only [State.landAll_keeps] at this
    exact this
  have hhold := State.advanceHold_noticed (forEach State.advanceFade s.landAll).publish
  have hsource : (forEach State.advanceFade s.landAll).publish.source = s.source := by simp [forEach]
  rw [hsource] at hhold
  have hall := State.noticed_trans (State.noticed_trans (State.landAll_noticed s) hfades) hhold
  have hports : s.outputFrameStart.ports = s.framed.ports := by simp [State.outputFrameStart_eq]
  intro p
  rw [hports]
  exact hall p

/-- The seam of a frame start, and whether it settles. -/
theorem Seam.advance_settled (q : Seam) : q.advance.2 = true ↔ ∃ f, q.fade = some f ∧ f.k + 1 = f.n := by
  unfold Seam.advance
  cases q.fade with
  | none => simp
  | some f =>
    dsimp only
    split <;> simp [*]

theorem Seam.endFade_settled (q : Seam) : q.endFade.2 = true ↔ ∃ f, q.fade = some f := by
  unfold Seam.endFade
  cases q.fade <;> simp

theorem bump_eq {n : Nat} : bump n = min (n + 1) 65535 := by
  unfold bump
  split <;> omega

theorem Buffer.shown?_eq_some {b : Buffer} {f : SourceFrame} : b.shown? = some f ↔ b = .shown f := by
  cases b <;> simp [Buffer.shown?]

theorem Buffers.shownFrame_some {b : Buffers} {f : SourceFrame} (h : b.shownFrame = some f) : .shown f ∈ b.toList := by
  simp only [Buffers.shownFrame, Option.or_eq_some_iff, Buffer.shown?_eq_some] at h
  simp only [Buffers.toList, List.mem_cons, List.not_mem_nil, or_false]
  rcases h with (h | ⟨-, h⟩) | ⟨-, h⟩
  · exact .inl h.symm
  · exact .inr (.inl h.symm)
  · exact .inr (.inr h.symm)

theorem Buffers.shownFrame_none (b : Buffers) : b.shownFrame = none ↔ ∀ f, .shown f ∉ b.toList := by
  have one : ∀ x : Buffer, x.shown? = none ↔ ∀ f, .shown f ≠ x := fun x => by cases x <;> simp [Buffer.shown?]
  simp only [Buffers.shownFrame, Option.or_eq_none_iff, one, Buffers.toList, List.mem_cons, List.not_mem_nil, or_false,
    not_or, forall_and, and_assoc]

theorem Buffers.toList_map (f : Buffer → Buffer) (b : Buffers) : (b.map f).toList = b.toList.map f := rfl

theorem InputState.dark_iff (x : InputState) : x.dark = true ↔ x = .noSignal ∨ x = .unsupported ∨ x = .black := by
  cases x <;> simp [InputState.dark]

/-! ## The move to STOPPED -/

theorem State.stopOutput_mesh (s : State) : s.stopOutput.mesh = s.landAll.mesh := Quad.ext_get fun h => by
  simp [State.stopOutput, forEach, State.landAll_get, State.saving]
  rfl

theorem State.stopOutput_seams (s : State) (sl : Slot) :
    s.stopOutput.seams.get sl = (s.seams.get sl).map fun q => q.endFade.1 := by
  unfold State.stopOutput
  rw [State.endFades_get]
  simp

theorem State.stopOutput_noticed (s : State) : s.noticed s.stopOutput fun k =>
    (∃ h, ((s.mesh.get h).commitPending = true ∧ s.saving = false) ∧ k = h.toNat) ∨
      ∃ sl q, s.seams.get sl = some q ∧ q.endFade.2 = true ∧ k = 12 + sl.toNat := by
  let u : State := { s with timing := .stopped, views := Quad.const none }
  have hland := State.landAll_noticed u
  have hfades := State.endFades_noticed u.landAll
  simp only [State.landAll_keeps] at hfades
  exact State.noticed_trans hland hfades

/-! ## The expiries that name what a frame start brings -/

/-- With no stop pending the next event of Output Timing is an output frame start. -/
theorem State.ownEvent_frameStart {s : State} {p : Pacing} {e : Nat} (h : s.timing = .running p false e) :
    ∃ n q, s.ownEvent = ({ s.elapse n with timing := .running q false 0 }).outputFrameStart := by
  unfold State.ownEvent
  rw [h]
  cases p
  case fixed => exact ⟨s.frameDue .fixed - e, .fixed, by simp [State.frameEvent, State.elapseTo, h, Timing.elapse]⟩
  case following => exact ⟨s.frameDue .following - e, .freeRunning,
      by simp [State.frameEvent, State.elapseTo, h, Timing.elapse]⟩
  case freeRunning => exact ⟨s.frameDue .freeRunning - e, .freeRunning,
      by simp [State.frameEvent, State.elapseTo, h, Timing.elapse]⟩

/-- The expiry that brings Output Timing's next event. -/
theorem exec_expiry_ownEvent {s : State} {p : Pacing} {f : Bool} {e : Nat} (h : s.timing = .running p f e) :
    exec (if p = .following then .followTimeout else .framePeriodExpiry) s = .next s.ownEvent := by
  cases p <;> simp [exec, execFollowTimeout, execFramePeriodExpiry, State.ownEvent, h]

/-! ## OUTPUT_SETUP -/

/-- What a changed grid does to the banks of every head (R12). -/
theorem State.resetBanks_eq (s : State) : forEach State.resetBanks s = ({ s with
      mesh := Quad.ofFn fun k =>
        { s.mesh.get k with
          active := flatMesh s.setup (s.heads.get k).tile
          staged := flatMesh s.setup (s.heads.get k).tile
          claim := none } }).withNotices 0xF#19 := by
  have hnotices : ∀ u : State, (((u.withNotices 1#19).withNotices 2#19).withNotices 4#19).withNotices 8#19 =
      u.withNotices 0xF#19 := fun u => by
    simp only [State.withNotices_withNotices]
    rfl
  rw [← hnotices]
  simp only [forEach, State.resetBanks, State.raise_eq]
  rfl

/-- The fields of the body of OUTPUT_SETUP read back. -/
theorem setup?_body {w h z r a : Nat} (hw : fits2 w) (hh : fits2 h) (hz : z < 256) (hr : r < 256) (ha : a < 256) :
    setup? (be2 w ++ be2 h ++ be1 z ++ be1 r ++ be1 a) =
      if 640 ≤ w ∧ w ≤ 4096 ∧ 360 ≤ h ∧ h ≤ 2304 ∧ (z = 64 ∨ z = 128) then
        (Rate.ofCode? r).bind fun r => (bool? a).map fun a => ⟨w, h, z, r, a⟩
      else none := by
  unfold fits2 at hw hh
  have ew : u16 (be2 w ++ be2 h ++ be1 z ++ be1 r ++ be1 a) 0 = w := by simp [be1, be2, u16]; omega
  have eh : u16 (be2 w ++ be2 h ++ be1 z ++ be1 r ++ be1 a) 2 = h := by simp [be1, be2, u16]; omega
  have ez : u8 (be2 w ++ be2 h ++ be1 z ++ be1 r ++ be1 a) 4 = z := by simp [be1, be2]; omega
  have er : u8 (be2 w ++ be2 h ++ be1 z ++ be1 r ++ be1 a) 5 = r := by simp [be1, be2]; omega
  have ea : u8 (be2 w ++ be2 h ++ be1 z ++ be1 r ++ be1 a) 6 = a := by simp [be1, be2]; omega
  simp only [setup?, ew, eh, ez, er, ea]
  cases Rate.ofCode? r <;> cases bool? a <;> rfl

end Sys2Proof.Machine

/-! PROVES. The output frame start and the stop, what paces them, and the requests of Output Timing. -/

namespace Sys2Proof

open Sys2Proof.Machine

/-- Settles O15: each timing state and each rate in turn. -/
theorem outputStartAndStop : Obligations.OutputStartAndStop := by
  refine ⟨fun tag s h => ⟨fun f ht hr => ?_, fun ht hr hl => ?_, fun ht hr hl => ?_, fun p f e ht => ?_⟩,
    fun tag s h => ⟨fun ht => ?_, fun p f e ht => ?_⟩⟩
  · exact State.request_answered h rfl (by simp [answerOutputStart, ht, State.startOutput, hr, done]) rfl
  · exact State.request_answered h rfl (by simp [answerOutputStart, ht, State.startOutput, hr, hl, done]) rfl
  · exact State.request_answered h rfl (by simp [answerOutputStart, ht, State.startOutput, hr, hl, done]) rfl
  · exact State.request_answered h rfl (by simp [answerOutputStart, ht, done]) rfl
  · exact State.request_answered h rfl (by simp [answerOutputStop, ht, done]) rfl
  · exact State.request_answered h rfl (by simp [answerOutputStop, ht, done]) rfl

/-- Settles O17: the moment is reached, and the event of that pacing comes. -/
theorem frameExpiries : Obligations.FrameExpiries := by
  refine ⟨fun s f e rate ht hr => ?_, fun s f e ht => ?_, fun s f e ht => ?_⟩ <;> intro u
  · have : u.timing = .running .fixed f (e + (rate.period - e)) := by simp [u, ht, Timing.elapse]
    cases f <;> simp [exec, execFramePeriodExpiry, ht, State.frameDue, State.fixedPeriod, hr, State.elapseTo,
      State.frameEvent, Timing.elapse, u]
  · cases f <;> simp [exec, execFramePeriodExpiry, ht, State.frameDue, State.measuredPeriod, Config.minPeriod,
      State.elapseTo, State.frameEvent, Timing.elapse, u]
  · cases f <;> simp [exec, execFollowTimeout, ht, State.frameDue, State.measuredPeriod, Config.minPeriod,
      State.elapseTo, State.frameEvent, Timing.elapse, u]

/-- Settles O16: the checks of R11 in their order, and the reset of the banks. -/
theorem outputSetup : Obligations.OutputSetup := by
  intro w h z r a tag s hw hh hz hr ha body hin hsave
  have hread := setup?_body hw hh hz hr ha
  refine ⟨fun hrun => ?_, fun hrun hbad => ?_, fun rate hrun h1 h2 h3 h4 h5 h6 h7 => ⟨fun hsame => ?_, fun hdiff => ?_⟩⟩
  · exact State.request_refused hin rfl (by simp [answerOutputSetup, hsave, hrun]) rfl
  · have hnone : setup? body = none := by
      refine hread.trans ?_
      split
      · rename_i hok
        by_cases hr9 : r ≤ 9
        · rw [bool?_eq_none.2 (by omega : 1 < a)]
          simp
        · rw [Rate.ofCode?_eq_none (by omega), Option.bind_none]
      · rfl
    exact State.request_refused hin rfl (by simp [answerOutputSetup, hsave, hrun, hnone]) rfl
  all_goals
    have hsome : setup? body = some ⟨w, h, z, rate, decide (a = 1)⟩ := by
      refine hread.trans ?_
      rw [if_pos ⟨h1, h2, h3, h4, h5⟩, ← h6, Rate.ofCode?_code, bool?_of_le h7]
      rfl
  · exact State.request_answered hin rfl (by simp [answerOutputSetup, hsave, hrun, hsome, hsame, done]) rfl
  · refine State.request_answered hin rfl ?_ rfl
    simp only [answerOutputSetup, hsave, hrun, hsome, hdiff, done, State.resetBanks_eq, Bool.false_eq_true, if_false]

/-- Settles O18: landings, fades, view, hold, buffer and views of a frame start, and the parts of a stop. -/
theorem frameStartAndStop : Obligations.FrameStartAndStop := by
  constructor
  · intro s t lands settles expires dark
    have hdark : dark ↔ s.framed.source.state.dark = true := by
      rw [State.framed_source, InputState.dark_iff]
    refine ⟨fun h => ?_, fun sl => ?_, ⟨_, State.outputFrameStart_published s, fun sl => ?_⟩, fun hs => ?_, fun hs => ?_,
      fun hd => ?_, fun hd hr => ?_, fun hd hr => ?_, fun h => ⟨_, State.outputFrameStart_view s h, rfl, ?_⟩, ?_, ?_⟩
    · simp only [t, State.outputFrameStart_mesh, State.landAll_get]
      exact ⟨fun h => if_pos h, fun h => if_neg h⟩
    · simp only [t, State.outputFrameStart_seams]
      refine ⟨fun h => by rw [h]; rfl, fun q hq => ⟨fun hf => ?_, fun f hf => ⟨fun he => ?_, fun he => ?_⟩⟩⟩
      · simp [hq, Seam.advance, hf]
      · simp [hq, Seam.advance, hf, he, Seam.settleAt]
      · simp [hq, Seam.advance, hf, he]
    · simp [t]
    · simp only [t, State.outputFrameStart_source, State.advanceHold_source, if_neg hs]
    · simp only [t, State.outputFrameStart_source, State.advanceHold_source, if_pos hs]
    · simp only [t, State.outputFrameStart_buffers, State.outputFrameStart_repeated]
      rcases State.chooseBuffer_cases s.framed with ⟨_, e⟩ | ⟨h, -, -⟩ | ⟨h, -, -⟩ | ⟨h, -, -⟩
      · rw [e]
        refine ⟨State.framed_repeated s, ?_⟩
        simp only [State.framed_buffers, Buffers.toList_map]
        exact List.map_congr_left fun b _ => by cases b <;> rfl
      · exact absurd (hdark.1 hd) (by simp [h])
      · exact absurd (hdark.1 hd) (by simp [h, InputState.dark])
      · exact absurd (hdark.1 hd) (by simp [h])
    · simp only [t, State.outputFrameStart_buffers, State.outputFrameStart_repeated]
      rcases State.chooseBuffer_cases s.framed with ⟨h, -⟩ | ⟨-, -, e⟩ | ⟨-, h, -⟩ | ⟨-, -, h, -⟩
      · exact absurd (hdark.2 h) hd
      · rw [e]
        refine ⟨State.framed_repeated s, ?_⟩
        simp only [State.framed_buffers, Buffers.toList_map]
        exact List.map_congr_left fun b _ => by cases b <;> rfl
      · exact absurd hr (by simp [← State.framed_buffers s, h])
      · exact absurd hr (by simp [← State.framed_buffers s, h])
    · have hlocked : t.source = s.framed.source := (State.framed_source s).symm
      simp only [t, State.outputFrameStart_buffers, State.outputFrameStart_repeated] at hlocked ⊢
      rw [hlocked]
      rcases State.chooseBuffer_cases s.framed with ⟨h, -⟩ | ⟨-, h, -⟩ | ⟨h, -, e⟩ | ⟨-, h, -, e⟩
      · exact absurd (hdark.2 h) hd
      · exact absurd hr (by simp [← State.framed_buffers s, h])
      · rw [e, if_pos h]
        exact ⟨State.framed_buffers s, by simp [bump_eq, State.framed_repeated]⟩
      · rw [e, if_neg h]
        exact ⟨State.framed_buffers s, State.framed_repeated s⟩
    · simp only [State.viewOf, State.outputFrameStart_published, Option.getD_some, Quad.get_map, t]
      refine ⟨by simp, by simp, by simp, by simp, by simp, by simp, by simp, by simp, by simp, trivial, by simp, by simp,
        by simp, trivial, fun sl => ⟨trivial, trivial⟩, Buffers.shownFrame_none _, fun f hf => Buffers.shownFrame_some hf⟩
    · refine State.noticed_congr (State.outputFrameStart_noticed s) fun k _ => ?_
      simp only [Seam.advance_settled, lands, settles, expires]
      constructor
      · rintro ((h | ⟨sl, q, hq, ⟨f, hf, hk⟩, e⟩) | h)
        · exact .inl h
        · exact .inr (.inl ⟨sl, ⟨q, f, hq, hf, hk⟩, e⟩)
        · exact .inr (.inr h)
      · rintro (h | ⟨sl, ⟨q, f, hq, hf, hk⟩, e⟩ | h)
        · exact .inl (.inl h)
        · exact .inl (.inr ⟨sl, q, hq, ⟨f, hf, hk⟩, e⟩)
        · exact .inr h
    · apply State.eq_of_fields <;> simp [t]
  · intro s t lands settles
    refine ⟨fun h => ?_, fun h => ?_, fun sl => ?_, ?_, ?_⟩
    · simp [t, State.stopOutput, forEach]
    · simp only [t, State.stopOutput_mesh, State.landAll_get]
      exact ⟨fun h => if_pos h, fun h => if_neg h⟩
    · simp only [t, State.stopOutput_seams]
      refine ⟨fun h => by rw [h]; rfl, fun q hq => ⟨fun hf => ?_, fun f hf => ?_⟩⟩
      · simp [hq, Seam.endFade, hf]
      · simp [hq, Seam.endFade, hf, Seam.settleAt]
    · refine State.noticed_congr (State.stopOutput_noticed s) fun k _ => ?_
      simp only [Seam.endFade_settled, lands, settles]
      refine or_congr Iff.rfl ⟨?_, ?_⟩
      · rintro ⟨sl, q, hq, ⟨f, hf⟩, e⟩
        exact ⟨sl, ⟨q, f, hq, hf⟩, e⟩
      · rintro ⟨sl, ⟨q, f, hq, hf⟩, e⟩
        exact ⟨sl, q, hq, ⟨f, hf⟩, e⟩
    · apply State.eq_of_fields <;> simp [t]
      simp [State.stopOutput, forEach]

/-- Settles O20: the next event of Output Timing is the frame start that ends the fade or the hold. -/
theorem fadeAndHoldExpiries : Obligations.FadeAndHoldExpiries := by
  constructor
  · intro sl q f s p e ht hq hf hk
    have hexec : exec (.fadeSettle sl) s = .next s.ownEvent := by
      simp [exec, execFadeSettle, hq, hf, ht, Timing.brings, hk]
    obtain ⟨n, pacing, hown⟩ := State.ownEvent_frameStart ht
    let u : State := { s.elapse n with timing := .running pacing false 0 }
    have hsettled : q.advance = ({ q with mode := f.dst, target := f.dst, fade := none }, true) := by
      simp [Seam.advance, hf, hk, Seam.settleAt]
    have hseam : s.ownEvent.seams.get sl = some { q with mode := f.dst, target := f.dst, fade := none } := by
      rw [hown, State.outputFrameStart_seams]
      simp [hq, hsettled]
    refine ⟨hexec.trans (exec_expiry_ownEvent ht).symm, _, hexec, hseam, ?_, fun port => ?_⟩
    · rw [hown, State.outputFrameStart_published, ← hown]
      exact ⟨_, rfl, by simp [hseam]⟩
    · have hnotice := (State.outputFrameStart_noticed u port).2 (12 + sl.toNat) (by have := Idx4.toNat_lt sl; omega)
      rw [hown]
      exact hnotice.2 (.inr (.inl (.inr ⟨sl, q, by simp [u, hq], by rw [hsettled], rfl⟩)))
  · intro s p e ht hs hk
    have hexec : exec .holdTimeExpiry s = .next s.ownEvent := by
      simp [exec, execHoldTimeExpiry, ht, Timing.brings, hs, hk]
    obtain ⟨n, pacing, hown⟩ := State.ownEvent_frameStart ht
    let u : State := { s.elapse n with timing := .running pacing false 0 }
    have hu : u.source.state = .holding ∧ u.source.holdTime < u.source.holdCount + 1 := ⟨hs, hk⟩
    have hsource : u.outputFrameStart.source = { u.source with holdCount := u.source.holdCount + 1, state := .black } := by
      rw [State.outputFrameStart_source, State.advanceHold_source, if_pos hu.1, if_pos hu.2]
    have hblack : u.outputFrameStart.source.state = .black := by rw [hsource]
    refine ⟨hexec.trans (exec_expiry_ownEvent ht).symm, _, hexec, ?_, ?_, fun h => ?_, fun port => ?_⟩ <;> rw [hown]
    · exact hblack
    · rw [hsource]
      rfl
    · refine ⟨_, State.outputFrameStart_view u h, hblack, ?_⟩
      have hdark : u.framed.source.state.dark = true := by
        rw [State.framed_source, hblack]
        rfl
      refine (Buffers.shownFrame_none _).2 fun f hf => ?_
      rw [State.outputFrameStart_buffers] at hf
      rcases State.chooseBuffer_cases u.framed with ⟨_, e⟩ | ⟨h, -, -⟩ | ⟨h, -, -⟩ | ⟨h, -, -⟩
      · rw [e, Buffers.toList_map, List.mem_map] at hf
        obtain ⟨b, -, hb⟩ := hf
        cases b <;> simp [Buffer.clear] at hb
      · simp [h] at hdark
      · simp [h, InputState.dark] at hdark
      · simp [h] at hdark
    · exact ((State.outputFrameStart_noticed u port).2 16 (by omega)).2 (.inr (.inr ⟨hu, rfl⟩))

end Sys2Proof

/-! SUPPORT. Codes that name nothing, the fields of a body read back, and the requests on a head's record. -/

namespace Sys2Proof.Machine

/-! ## Codes -/

theorem bool?_le {n : Nat} {b : Bool} (h : bool? n = some b) : n ≤ 1 := by
  by_contra hn
  rw [bool?_eq_none.2 (by omega)] at h
  cases h

theorem depth?_some {n : Nat} {d : Depth} (h : depth? n = some d) : n = depthBits d := by
  unfold depth? at h
  split at h <;> cases h <;> rfl

@[simp] theorem depth?_bits (d : Depth) : depth? (depthBits d) = some d := by cases d <;> rfl

@[simp] theorem Light.ofCode?_code (l : Light) : Light.ofCode? l.code = some l := by cases l <;> rfl

theorem Light.ofCode?_eq_none {n : Nat} (h : 2 < n) : Light.ofCode? n = none := by
  unfold Light.ofCode?
  split <;> simp_all

@[simp] theorem Period.ofCode?_code (x : Period) : Period.ofCode? x.code = some x := by cases x <;> rfl

theorem Period.ofCode?_eq_none {n : Nat} (h : 5 < n) : Period.ofCode? n = none := by
  unfold Period.ofCode?
  split <;> simp_all

@[simp] theorem Pin.ofCode?_code (x : Pin) : Pin.ofCode? x.code = some x := by
  cases x with
  | auto => rfl
  | fixed m => cases m <;> rfl

theorem Pin.ofCode?_eq_none {n : Nat} (h : 3 < n) : Pin.ofCode? n = none := by
  unfold Pin.ofCode?
  split <;> simp_all

theorem Pin.ofCode?_le {n : Nat} {x : Pin} (h : Pin.ofCode? n = some x) : n ≤ 3 := by
  by_contra hn
  rw [Pin.ofCode?_eq_none (by omega)] at h
  cases h

@[simp] theorem Orientation.ofCode?_code (x : Orientation) : Orientation.ofCode? x.code = some x := by
  cases x <;> rfl

theorem Orientation.ofCode?_le {n : Nat} {x : Orientation} (h : Orientation.ofCode? n = some x) : n ≤ 1 := by
  unfold Orientation.ofCode? at h
  split at h <;> simp_all

theorem Idx4.ofNat?_le {n : Nat} {h : Idx4} (hn : Idx4.ofNat? n = some h) : n ≤ 3 := by
  rw [Idx4.ofNat?_eq_some] at hn
  have := Idx4.toNat_lt h
  omega

theorem Tile.ok_iff (t : Tile) :
    t.ok = true ↔ t.x0 + 256 ≤ t.x1 + 1 ∧ t.y0 + 256 ≤ t.y1 + 1 ∧ t.x1 ≤ 4095 ∧ t.y1 ≤ 2303 := by
  rw [Tile.ok, decide_eq_true_eq]

/-! ## A head's own port -/

/-- A port that speaks for the head that a request names has authority for HEAD_MODE and HEAD_STATE. -/
theorem State.authorised_own {k : Kind} {p : Port} {h : Head} {body : List Byte} (s : State)
    (hk : k = .headMode ∨ k = .headState) (hb : u8 body 0 = h.toNat) (hp : p.speaksFor h) :
    s.authorised k p body = true := by
  rcases hp with rfl | rfl
  · rfl
  · have hx : Idx4.ofNat? (u8 body 0) = some h := by rw [hb, Idx4.ofNat?_toNat]
    rcases hk with rfl | rfl <;> simp [State.authorised, kindHead?, hx]

theorem u8_be1_idx (h : Idx4) (r : List Byte) : u8 (be1 h.toNat ++ r) 0 = h.toNat := by
  cases h <;> simp [be1, Idx4.toNat]

/-- The sender of a request that names a head above 3, or its own. -/
theorem State.authorised_named {k : Kind} {p : Port} {body : List Byte} (s : State)
    (hk : k = .headMode ∨ k = .headState) (hp : p = .ap ∨ ∃ h : Head, p = .head h ∧ u8 body 0 = h.toNat) :
    s.authorised k p body = true := by
  rcases hp with rfl | ⟨h, rfl, hb⟩
  · rfl
  · exact State.authorised_own s hk hb (.inr rfl)

/-- ADJUSTED where a value was clamped, DONE otherwise. -/
theorem adjusted_eq (s : State) (c : Bool) {P : Prop} [Decidable P] (h : c = false ↔ P) :
    adjusted s c = ⟨s, if P then .done else .adjusted, []⟩ := by
  cases c with
  | false => simp [adjusted, h.1 rfl]
  | true => simp [adjusted, show ¬ P from fun hP => by cases h.2 hP]

/-! ## Fields of bodies -/

/-- The fields of HEAD_SETUP read back. -/
theorem headSetup_fields {n e d : Nat} {t : Tile} (hn : n < 256) (he : e < 256) (hd : d < 256) (h0 : fits2 t.x0)
    (h1 : fits2 t.x1) (h2 : fits2 t.y0) (h3 : fits2 t.y1) :
    let body := be1 n ++ be1 e ++ tileBytes t ++ be1 d
    u8 body 0 = n ∧ u8 body 1 = e ∧ tileAt body 2 = t ∧ u8 body 10 = d := by
  obtain ⟨x0, x1, y0, y1⟩ := t
  simp only [fits2] at h0 h1 h2 h3
  simp only [tileAt, tileBytes, Tile.mk.injEq]
  simp [be1, be2, u16]
  omega

/-- The pattern fields of HEAD_MODE read back. -/
theorem patternAt_body {h : Head} {f : PatternFields} (hk : f.kind < 256) (hr : fits2 f.codes.r) (hg : fits2 f.codes.g)
    (hb : fits2 f.codes.b) (hl : fits2 f.level) (hs : fits2 f.spacing) :
    patternAt (be1 h.toNat ++ be1 2 ++ patternBytes f) 2 = f := by
  obtain ⟨kind, ⟨r, g, b⟩, level, spacing⟩ := f
  simp only [fits2] at hk hr hg hb hl hs
  simp only [patternAt, patternBytes, rgbAt, rgbBytes, PatternFields.mk.injEq, Rgb.mk.injEq]
  simp [be1, be2, u16]
  omega

/-- The lifts of LIFT_SET read back. -/
theorem lifts_body {h : Head} {a b : Rgb} (har : fits2 a.r) (hag : fits2 a.g) (hab : fits2 a.b) (hbr : fits2 b.r)
    (hbg : fits2 b.g) (hbb : fits2 b.b) :
    rgbAt (be1 h.toNat ++ rgbBytes a ++ rgbBytes b) 1 = a ∧ rgbAt (be1 h.toNat ++ rgbBytes a ++ rgbBytes b) 7 = b := by
  obtain ⟨ar, ag, ab⟩ := a
  obtain ⟨br, bg, bb⟩ := b
  simp only [fits2] at har hag hab hbr hbg hbb
  simp only [rgbAt, rgbBytes, Rgb.mk.injEq]
  simp [be1, be2, u16]
  omega

/-! ## Head modes -/

theorem askedMode_live {body : List Byte} (h : u8 body 1 = 0) : askedMode body = some (.live, false) := by
  simp [askedMode, h]

theorem askedMode_muted {body : List Byte} (h : u8 body 1 = 1) : askedMode body = some (.muted, false) := by
  simp [askedMode, h]

theorem askedMode_pattern {body : List Byte} {q : Pattern} (h : u8 body 1 = 2)
    (hq : (patternAt body 2).pattern? = some q) :
    askedMode body = some (.pattern q.clamp, decide (q.clamp ≠ q)) := by
  simp [askedMode, h, hq]

theorem askedMode_none {body : List Byte} (h : 2 < u8 body 1 ∨ (u8 body 1 = 2 ∧ 4 < u8 body 2)) :
    askedMode body = none := by
  have hpattern : 4 < u8 body 2 → (patternAt body 2).pattern? = none := fun h => by
    unfold PatternFields.pattern?
    have hk : (patternAt body 2).kind = u8 body 2 := rfl
    rw [hk]
    split <;> first | omega | rfl
  unfold askedMode
  rcases h with h | ⟨h, h4⟩
  · split <;> first | omega | rfl
  · simp [h, hpattern h4]

/-! ## The Presence Monitor -/

theorem Presence.code_two (x : Presence) : x.code = 2 ↔ ∃ t, x = .present t := by cases x <;> simp [Presence.code]

end Sys2Proof.Machine

/-! PROVES. The requests on head records, and the events of the Presence Monitor. -/

namespace Sys2Proof

open Sys2Proof.Machine

/-- Settles O21: the checks of R16 in their order. -/
theorem headSetup : Obligations.HeadSetup := by
  intro n e d t tag s hn he hd h0 h1 h2 h3 body tileFits hin hsave
  obtain ⟨en, ee, et, ed⟩ : u8 body 0 = n ∧ u8 body 1 = e ∧ tileAt body 2 = t ∧ u8 body 10 = d :=
    headSetup_fields hn he hd h0 h1 h2 h3
  clear_value body
  have hok : t.ok = true ↔ tileFits := Tile.ok_iff t
  refine ⟨fun hbad => ?_, fun h depth hh hle hdepth hfits => ?_⟩
  · refine State.request_refused hin rfl ?_ rfl
    simp only [answerHeadSetup, hsave, en, ee, et, ed, Bool.false_eq_true, if_false]
    split
    · rename_i h b d' hh hb hd'
      have : t.ok = false := by
        rw [← Bool.not_eq_true, hok]
        intro hf
        have := depth?_some hd'
        exact hbad ⟨Idx4.ofNat?_le hh, bool?_le hb, by cases d' <;> simp_all [depthBits], hf⟩
      rw [if_pos this]
    · rfl
  · intro r u
    have hhead : Idx4.ofNat? n = some h := by rw [hh, Idx4.ofNat?_toNat]
    have hrule : answerHeadSetup .ap body s =
        if s.bandsInside h t = false then refuse s .conflict else done (s.writeHead h r) := by
      simp only [answerHeadSetup, hsave, en, ee, et, ed, hhead, bool?_of_le hle, hdepth, depth?_bits,
        hok.2 hfits, Bool.false_eq_true, if_false, reduceCtorEq]
      rfl
    refine ⟨fun ⟨sl, q, hq, hname, hout⟩ => ?_, fun hinside => ?_⟩
    · refine State.request_refused hin rfl (hrule.trans (if_pos ?_)) rfl
      rw [← Bool.not_eq_true, State.bandsInside_iff]
      exact fun hall => absurd ((hall sl q hq hname).symm.trans hout) (by simp)
    · have hall := (State.bandsInside_iff s h t).2 hinside
      refine State.request_carried (st := .done) hin rfl (hrule.trans (if_neg (by simp [hall]))) ?_ rfl
      simp only [kindHead?, en, hhead]

/-- Settles O22: each field is clamped, and the answer says where. -/
theorem modeLiftAndHold : Obligations.ModeLiftAndHold := by
  refine ⟨fun p tag body s hin hp hbad => ?_, fun tag body s hin hsave h3 => ?_,
    fun p h rest tag s hp => ⟨fun hin => ?_, fun hin => ?_⟩, fun p h f q tag s hp hk hr hg hb hl hs hq => ?_,
    fun h a b tag s har hag hab hbr hbg hbb => ?_, fun n tag s hn hin hsave => ?_⟩
  · refine State.request_refused hin (State.authorised_named s (.inl rfl) hp) ?_ rfl
    unfold answerHeadMode
    rcases hbad with h | h
    · rw [Idx4.ofNat?_eq_none.2 h]
    · rw [askedMode_none h]
      split
      · simp_all
      · rfl
  · refine State.request_refused hin rfl ?_ rfl
    simp [answerLiftSet, hsave, Idx4.ofNat?_eq_none.2 h3]
  · have h0 : u8 (be1 h.toNat ++ be1 0 ++ rest) 0 = h.toNat := by rw [List.append_assoc, u8_be1_idx]
    refine State.request_carried hin (State.authorised_own s (.inl rfl) h0 hp) ?_
      (by rw [kindHead?, h0, Idx4.ofNat?_toNat]) rfl
    simp only [answerHeadMode, h0, Idx4.ofNat?_toNat, askedMode_live (body := be1 h.toNat ++ be1 0 ++ rest) rfl]
    rfl
  · have h0 : u8 (be1 h.toNat ++ be1 1 ++ rest) 0 = h.toNat := by rw [List.append_assoc, u8_be1_idx]
    refine State.request_carried hin (State.authorised_own s (.inl rfl) h0 hp) ?_
      (by rw [kindHead?, h0, Idx4.ofNat?_toNat]) rfl
    simp only [answerHeadMode, h0, Idx4.ofNat?_toNat, askedMode_muted (body := be1 h.toNat ++ be1 1 ++ rest) rfl]
    rfl
  · intro body hin
    have h0 : u8 body 0 = h.toNat := by simp only [body]; rw [List.append_assoc, u8_be1_idx]
    have hmode : askedMode body = some (.pattern q.clamp, decide (q.clamp ≠ q)) :=
      askedMode_pattern rfl (by rw [patternAt_body hk hr hg hb hl hs, hq])
    refine State.request_carried hin (State.authorised_own s (.inl rfl) h0 hp) ?_
      (by rw [kindHead?, h0, Idx4.ofNat?_toNat]) ?_
    · simp only [answerHeadMode, h0, Idx4.ofNat?_toNat, hmode]
      exact adjusted_eq _ _ (by simp)
    · split <;> rfl
  · intro body hin hsave
    have h0 : u8 body 0 = h.toNat := by simp only [body]; rw [List.append_assoc, u8_be1_idx]
    obtain ⟨ea, eb⟩ := lifts_body (h := h) har hag hab hbr hbg hbb
    refine State.request_carried hin rfl ?_ (by rw [kindHead?, h0, Idx4.ofNat?_toNat]) ?_
    · simp only [answerLiftSet, hsave, h0, Idx4.ofNat?_toNat, body, ea, eb, Bool.false_eq_true, if_false]
      refine adjusted_eq _ _ ?_
      obtain ⟨ar, ag, ab⟩ := a
      obtain ⟨br, bg, bb⟩ := b
      simp [rgbMap, and_assoc]
    · split <;> rfl
  · have hread : u16 (be2 n) 0 = n := by
      have := u16_be2 n []
      rw [List.append_nil] at this
      rw [this]
      exact Nat.mod_eq_of_lt hn
    refine State.request_answered hin rfl ?_ rfl
    simp only [answerHoldSetup, hsave, hread, Bool.false_eq_true, if_false]
    exact adjusted_eq _ _ (by simp)

/-- Settles O25: each timer at the moment it is due. -/
theorem inputExpiries : Obligations.InputExpiries := by
  refine ⟨fun h level s => ?_, fun h n s hd => ?_, fun h n limit s hp hl => ?_, fun h c s hc hp => ?_⟩
  · have : (s.monitor.get h).lineAt level = { s.monitor.get h with
        line := level
        debounce := if level = (s.monitor.get h).sink then none else some ((s.monitor.get h).debounce.getD 0) } := by
      unfold Monitor.lineAt
      cases (s.monitor.get h).debounce <;> simp
    simp only [exec, execDetectLineChange, this]
  · simp only [exec, execSinkDebounceExpiry, hd]
    simp [State.settleSink, State.elapseTo, Config.debounceTicks, Monitor.elapse]
  · simp only [exec, execPresenceExpiry, hp, hl]
    rfl
  · simp only [exec, execClaimLapse, hc, hp]
    simp only [State.loseClaim, State.raise_eq]
    simp [State.elapseTo, Config.lapseTicks, HeadMesh.revert, HeadMesh.elapse, hp, Notice.number]

/-- Settles O26: the light, and the period with the table of R88. -/
theorem headStateAndPresenceSetup : Obligations.HeadStateAndPresenceSetup := by
  refine ⟨fun p tag body s hin hp hbad => ?_, fun tag body s hin hsave hbad => ?_, fun p h l tag s hp hin => ?_,
    fun h n tag s hin hsave => ?_⟩
  · refine State.request_refused hin (State.authorised_named s (.inr rfl) hp) ?_ rfl
    unfold answerHeadState
    rcases hbad with h | h
    · rw [Idx4.ofNat?_eq_none.2 h]
    · rw [Light.ofCode?_eq_none h]
      split
      · simp_all
      · rfl
  · refine State.request_refused hin rfl ?_ rfl
    simp only [answerPresenceSetup, hsave, Bool.false_eq_true, if_false]
    rcases hbad with h | h
    · rw [Idx4.ofNat?_eq_none.2 h]
    · rw [Period.ofCode?_eq_none h]
      split
      · simp_all
      · rfl
  · intro m u m'
    have h0 : u8 (be1 h.toNat ++ be1 l.code) 0 = h.toNat := u8_be1_idx ..
    have h1 : u8 (be1 h.toNat ++ be1 l.code) 1 = l.code := by cases l <;> rfl
    refine State.request_carried hin (State.authorised_own s (.inr rfl) h0 hp) ?_
      (by rw [kindHead?, h0, Idx4.ofNat?_toNat]) rfl
    simp only [answerHeadState, h0, h1, Idx4.ofNat?_toNat, Light.ofCode?_code, stateReport, monitorBytes,
      List.append_assoc, m', u, m]
  · intro m old
    have h0 : u8 (be1 h.toNat ++ be1 n.code) 0 = h.toNat := u8_be1_idx ..
    have h1 : u8 (be1 h.toNat ++ be1 n.code) 1 = n.code := by cases n <;> rfl
    refine ⟨m.presence.withPeriod old n, fun he => ?_, fun he ho => ?_, fun he ho => ?_, fun he ho hn => ⟨?_, fun hx => ?_⟩,
      ?_⟩
    · simp [Presence.withPeriod, he]
    · simpa [Presence.withPeriod, ho] using fun e => absurd (e.trans ho.symm) he
    · have hn : n ≠ .off := fun e => he (ho.trans e.symm)
      simp [Presence.withPeriod, ho, hn, hn.symm]
    · rintro ⟨t, ht⟩
      simp [Presence.withPeriod, he, ho, hn, ht]
    · simp only [Presence.withPeriod, he, ho, hn, if_false]
      cases hm : m.presence <;> simp_all
    · intro v u m'
      refine State.request_carried hin rfl ?_ (by rw [kindHead?, h0, Idx4.ofNat?_toNat]) rfl
      simp only [answerPresenceSetup, hsave, h0, h1, Idx4.ofNat?_toNat, Period.ofCode?_code, stateReport, monitorBytes,
        List.append_assoc, m', u, v, m, old, State.setHead, State.setPresence, Bool.false_eq_true, if_false]

end Sys2Proof

/-! SUPPORT. What a re-derivation does to a seam branch by branch, and the requests on seams and curves. -/

namespace Sys2Proof.Machine

/-! ## The branches of a retarget -/

theorem Seam.retarget_stopped {q : Seam} {t : SeamMode} (hchange : t ≠ q.target) :
    q.retarget false t = (q.settleAt t, true) := by
  simp [Seam.retarget, hchange]

theorem Seam.retarget_settled {q : Seam} {t : SeamMode} (hf : q.fade = none) (hchange : t ≠ q.target) :
    q.retarget true t = q.startFade t := by
  simp [Seam.retarget, hf, hchange]

/-- Where a retarget settles the seam (R75, R76, R79). -/
def Seam.Settles (q : Seam) (running : Bool) (t : SeamMode) : Prop :=
  t ≠ q.target ∧ (running = false ∨ (q.fade = none ∧ q.fadeLength t = 0) ∨
    ∃ f, q.fade = some f ∧ ((t = f.src ∧ f.k = 0) ∨ (t ≠ f.src ∧ q.fadeLength t = 0)))

/-- The start of a fade says that it settled exactly where its length is 0. -/
theorem Seam.startFade_settles (q : Seam) (t : SeamMode) : (q.startFade t).2 = decide (q.fadeLength t = 0) := by
  unfold Seam.startFade
  split <;> simp [*]

/-- A retarget says that it settled exactly where it does. -/
theorem Seam.retarget_settles (q : Seam) (running : Bool) (t : SeamMode) :
    (q.retarget running t).2 = true ↔ q.Settles running t := by
  unfold Seam.Settles
  by_cases hc : t = q.target
  · subst hc
    simp [Seam.retarget_target]
  cases running with
  | false => simp [Seam.retarget_stopped hc, hc]
  | true =>
    cases hf : q.fade with
    | none => simp [Seam.retarget_settled hf hc, Seam.startFade_settles, hc]
    | some f =>
      by_cases hs : t = f.src
      · by_cases hk : f.k = 0
        · rw [Seam.retarget_src_of_zero hf hc hs hk]
          simp [hs, hk, hs ▸ hc]
        · rw [Seam.retarget_src_of_ne_zero hf hc hs hk]
          simp [hk, hs]
      · have hlen : (q.settleAt f.dst).fadeLength t = q.fadeLength t := rfl
        simp [Seam.retarget_third hf hc hs, Seam.startFade_settles, hlen, hs, hc]

/-- A seam that settles at a retarget stands at the new target. -/
theorem Seam.retarget_of_settles {q : Seam} {running : Bool} {t : SeamMode} (h : q.Settles running t) :
    (q.retarget running t).1 = q.settleAt t := by
  obtain ⟨hc, hcase⟩ := h
  cases running with
  | false => rw [Seam.retarget_stopped hc]
  | true =>
    rcases hcase with hr | ⟨hf, hn⟩ | ⟨f, hf, ⟨hs, hk⟩ | ⟨hs, hn⟩⟩
    · cases hr
    · rw [Seam.retarget_settled hf hc, Seam.startFade_of_zero hn]
    · rw [Seam.retarget_src_of_zero hf hc hs hk]
    · have hlen : (q.settleAt f.dst).fadeLength t = 0 := hn
      rw [Seam.retarget_third hf hc hs, Seam.startFade_of_zero hlen]
      rfl

/-! ## Re-derivations -/

/-- The contribution by the four inputs, the presence by its code (R84, R93). -/
theorem contribution_eq (enabled : Bool) (m : Monitor) : contribution enabled m = decide (enabled = true ∧
    m.sink = true ∧ m.light = .on ∧ (m.presence = .notWatched ∨ m.presence.code = 2)) := by
  rw [Bool.eq_iff_iff, contribution_iff, decide_eq_true_eq, Presence.code_two]

/-- The state in which a changed contribution has been written and noticed, and no seam has been retargeted. -/
def State.contributing (h : Head) (s : State) : State :=
  ({ s with monitor := s.monitor.set h { s.monitor.get h with
      contributes := contribution (s.heads.get h).enabled (s.monitor.get h) } }).raise (.headChanged h)

theorem State.contributing_monitor (h : Head) (s : State) : (s.contributing h).monitor =
    s.monitor.set h { s.monitor.get h with
      contributes := contribution (s.heads.get h).enabled (s.monitor.get h) } := by
  simp [State.contributing]

theorem State.contributing_contributes (h k : Head) (s : State) : (s.contributing h).contributes k =
    if k = h then contribution (s.heads.get h).enabled (s.monitor.get h) else s.contributes k := by
  simp only [State.contributes, State.contributing_monitor, Quad.get_set]
  split <;> rfl

theorem State.contributing_seams (h : Head) (s : State) : (s.contributing h).seams = s.seams := by
  simp [State.contributing]

theorem State.contributing_running (h : Head) (s : State) : (s.contributing h).running = s.running := by
  simp [State.contributing, State.running]

theorem State.contributing_noticed (h : Head) (s : State) :
    s.noticed (s.contributing h) fun k => k = 8 + h.toNat :=
  State.raise_noticed (.headChanged h) _

/-- A re-derivation that changes nothing. -/
theorem State.rederive_same {h : Head} {s : State}
    (e : contribution (s.heads.get h).enabled (s.monitor.get h) = (s.monitor.get h).contributes) :
    s.rederive h = s := if_pos e

/-- A re-derivation that changes the contribution. -/
theorem State.rederive_changed {h : Head} {s : State}
    (e : contribution (s.heads.get h).enabled (s.monitor.get h) ≠ (s.monitor.get h).contributes) :
    s.rederive h = (s.contributing h).retargetHead h := if_neg e

/-- Nothing but the monitor, the seams and the notice sets changes. -/
theorem State.rederive_frame (h : Head) (s : State) : s.rederive h =
    { s with monitor := (s.rederive h).monitor, seams := (s.rederive h).seams, ports := (s.rederive h).ports } := by
  apply State.eq_of_fields <;> simp

/-! ## Fields of SEAM_DEFINE and CURVE_WRITE -/

/-- The fields of SEAM_DEFINE read back. -/
theorem seamDefine_fields {n o x y a b c w : Nat} (hn : n < 256) (ho : o < 256) (hx : x < 256) (hy : y < 256)
    (ha : fits2 a) (hb : fits2 b) (hc : c < 256) (hw : w < 256) :
    let body := be1 n ++ be1 o ++ be1 x ++ be1 y ++ be2 a ++ be2 b ++ be1 c ++ be1 w
    u8 body 0 = n ∧ seamAt body 1 = ⟨o, x, y, a, b, c, w⟩ := by
  simp only [fits2] at ha hb
  simp only [seamAt, SeamFields.mk.injEq]
  simp [be1, be2, u16]
  omega

/-- A seam's fields pass the structure checks of R57 only in their lists. -/
theorem SeamFields.check_bounds {f : SeamFields} {g : SeamGeometry} {pin : Pin} (h : f.check = some (g, pin)) :
    f.orientation ≤ 1 ∧ f.pin ≤ 3 ∧ f.falling ≤ 3 ∧ f.rising ≤ 3 ∧ f.falling ≠ f.rising ∧ f.curve ≤ 7 ∧
      f.a + 16 ≤ f.b ∧ f.b ≤ f.a + 1024 := by
  unfold SeamFields.check at h
  split at h
  · rename_i o w x y ho hw hx hy
    split at h
    · rename_i hc
      obtain ⟨hne, hcurve, hlow, hhigh⟩ := hc
      refine ⟨Orientation.ofCode?_le ho, Pin.ofCode?_le hw, Idx4.ofNat?_le hx, Idx4.ofNat?_le hy, fun e => hne ?_,
        hcurve, hlow, hhigh⟩
      rw [e] at hx
      exact Option.some.inj (hx.symm.trans hy)
    · cases h
  · cases h

/-- A geometry of a lawful shape and a pin pass them. -/
theorem SeamFields.check_of_shaped {g : SeamGeometry} (pin : Pin) (hg : g.shaped) :
    SeamFields.check ⟨g.orientation.code, g.falling.toNat, g.rising.toNat, g.a, g.b, g.curve, pin.code⟩ =
      some (g, pin) := by
  simp only [SeamFields.check, Orientation.ofCode?_code, Pin.ofCode?_code, Idx4.ofNat?_toNat]
  exact if_pos hg

theorem SeamGeometry.inTiles_iff (g : SeamGeometry) (tile : Head → Tile) :
    g.inTiles tile = true ↔ g.inTile (tile g.falling) = true ∧ g.inTile (tile g.rising) = true := by
  rw [SeamGeometry.inTiles, Bool.and_eq_true]

theorem entries_of_body {n : Nat} {l : List Nat} (hn : n < 256) (hl : l.length = 65) (hf : ∀ x ∈ l, fits2 x) :
    u8 (be1 n ++ l.flatMap be2) 0 = n ∧ entriesAt (be1 n ++ l.flatMap be2) 1 65 = l := by
  refine ⟨?_, ?_⟩
  · rw [u8_be1]
    exact Nat.mod_eq_of_lt hn
  · have h := entriesAt_append (be1 n) l hf
    rwa [hl] at h

/-- Entries held to a greatest value stay as they are exactly where none is above it. -/
theorem map_min_eq_self (m : Nat) (l : List Nat) : l.map (min m) = l ↔ ∀ x ∈ l, x ≤ m := by
  conv_lhs => rw [← List.map_id l, List.map_map, List.map_inj_left]
  exact forall₂_congr fun x _ => by simp

end Sys2Proof.Machine

/-! PROVES. The re-derivation of a contribution and of a target, and the requests on seams and curves. -/

namespace Sys2Proof

open Sys2Proof.Machine

/-- Settles O28: the seams that name the head, branch by branch of R75, R76 and R79. -/
theorem rederiveEffect : Obligations.RederiveEffect := by
  intro h s m c on aim length settles
  have hc : contribution (s.heads.get h).enabled (s.monitor.get h) = c := contribution_eq _ _
  refine ⟨fun e => State.rederive_same (hc.trans e), ?_⟩
  intro hne t
  have ht : t = (s.contributing h).retargetHead h := State.rederive_changed (by rw [hc]; exact hne)
  have hon : ∀ k, (s.contributing h).contributes k = on k := fun k => by
    rw [State.contributing_contributes, hc]
  have hget : ∀ sl, t.seams.get sl = (s.seams.get sl).map fun q =>
      if q.geo.names h then (q.retarget s.running (aim q)).1 else q := fun sl => by
    rw [ht, State.retargetHead_get, State.contributing_seams]
    simp only [State.retargeted, State.contributing_running, hon, aim]
  have hnamed : ∀ {sl q}, s.seams.get sl = some q → q.geo.names h = true →
      t.seams.get sl = some (q.retarget s.running (aim q)).1 := fun hq hn => by
    rw [hget, hq, Option.map_some, if_pos hn]
  refine ⟨by rw [ht, (State.retargetHead_keeps h _).2.2.2.2.1, State.contributing_monitor, hc],
    fun sl q hq hn => ⟨fun e => ?_, fun hs => ?_, fun hch hr hf hl => ?_, fun f hch hr hf => ⟨fun hs hk => ?_, fun hs hl => ?_⟩⟩,
    fun sl q hq hn => ?_, fun sl hq => ?_, ?_, State.rederive_frame h s⟩
  · rw [hnamed hq hn, e, Seam.retarget_target]
  · rw [hnamed hq hn, Seam.retarget_of_settles hs]
    rfl
  · rw [hnamed hq hn, hr, Seam.retarget_settled hf hch, Seam.startFade_of_ne_zero hl]
    rfl
  · rw [hnamed hq hn, hr, Seam.retarget_src_of_ne_zero hf hch hs hk]
  · have hthird : (q.settleAt f.dst).startFade (aim q) = _ := Seam.startFade_of_ne_zero hl
    rw [hnamed hq hn, hr, Seam.retarget_third hf hch hs, hthird]
    rfl
  · rw [hget, hq, Option.map_some, if_neg (by simp [hn])]
  · rw [hget, hq, Option.map_none]
  · have hseams := State.retargetHead_noticed h (s.contributing h)
    rw [← ht] at hseams
    refine State.noticed_congr (State.noticed_trans (State.contributing_noticed h s) hseams) fun k _ => ?_
    refine or_congr_right (exists_congr fun sl => exists_congr fun q => ?_)
    rw [State.contributing_seams, State.contributing_running, hon, hon, Seam.retarget_settles]
    exact and_congr_right fun _ => and_assoc

/-- Settles O29: the table of R71, and R75 and R79 for a settled seam. -/
theorem retargetSettled : Obligations.RetargetSettled := by
  refine ⟨fun m f r kept => rfl, fun kept => ⟨rfl, rfl, rfl, rfl⟩, ?_⟩
  intro sl q s hq hf hmode t n settled
  have hslot : s.retargetSlot sl = s.putSeam sl (q.retarget s.running t) := State.retargetSlot_of_get hq
  refine ⟨fun e => ?_, fun hch hs => ?_, fun hch hr hn => ?_⟩
  · rw [hslot, e, Seam.retarget_target, State.putSeam_quiet]
  · have hset : q.Settles s.running t := ⟨hch, hs.imp_right fun hn => .inl ⟨hf, hn⟩⟩
    have hflag := (Seam.retarget_settles q s.running t).2 hset
    have hpair : q.retarget s.running t = (settled, true) :=
      Prod.ext ((Seam.retarget_of_settles hset).trans (by simp [Seam.settleAt, settled, hf])) hflag
    rw [hslot, hpair, State.putSeam_settled]
  · rw [hslot, hr, Seam.retarget_settled hf hch, Seam.startFade_of_ne_zero hn, State.putSeam_quiet]
    rfl

/-- Settles O31: the steps of R57 in their order. -/
theorem seamDefine : Obligations.SeamDefine := by
  intro n o x y a b c w tag s hn ho hx hy ha hb hc hw body hin hsave
  obtain ⟨en, ef⟩ : u8 body 0 = n ∧ seamAt body 1 = ⟨o, x, y, a, b, c, w⟩ :=
    seamDefine_fields hn ho hx hy ha hb hc hw
  clear_value body
  refine ⟨fun hbad => ?_, ?_⟩
  · refine State.request_refused hin rfl ?_ rfl
    simp only [answerSeamDefine, hsave, en, ef, Bool.false_eq_true, if_false]
    split
    · rename_i hsl hcheck
      obtain ⟨h1, h2, h3, h4, h5, h6, h7, h8⟩ := SeamFields.check_bounds hcheck
      exact absurd ⟨Idx4.ofNat?_le hsl, h1, h2, h3, h4, h5, h6, h7, h8⟩ hbad
    · rfl
  · rintro sl g pin rfl rfl rfl rfl rfl rfl rfl rfl hg clear
    have hrule : answerSeamDefine .ap body s = if g.inTiles s.tile = false then refuse s .conflict
        else if freeOfClash sl g s.geometry = false then refuse s .conflict else done (s.placeSeam sl g pin 2 48) := by
      simp only [answerSeamDefine, hsave, en, ef, SeamFields.check_of_shaped pin hg, Idx4.ofNat?_toNat,
        Bool.false_eq_true, if_false]
    have hclear : clear ↔ g.inTiles s.tile = true ∧ freeOfClash sl g s.geometry = true := by
      rw [SeamGeometry.inTiles_iff, freeOfClash_iff, and_assoc]
      rfl
    refine ⟨fun hno => ?_, ?_⟩
    · refine State.request_refused hin rfl (hrule.trans ?_) rfl
      by_cases ht : g.inTiles s.tile = true
      · have hf : freeOfClash sl g s.geometry = false := by
          rw [← Bool.not_eq_true]
          exact fun hf => hno (hclear.2 ⟨ht, hf⟩)
        rw [if_neg (by simp [ht]), if_pos hf]
      · rw [if_pos (by simpa using ht)]
    · intro hyes t
      obtain ⟨ht, hf⟩ := hclear.1 hyes
      exact State.request_answered hin rfl (hrule.trans (by rw [if_neg (by simp [ht]), if_neg (by simp [hf])]; rfl)) rfl

/-- Settles O32: each request names its slot, and the last two want a seam there. -/
theorem seamEdits : Obligations.SeamEdits := by
  refine ⟨fun tag body s hsave => ⟨fun hin hbad => ?_, fun hin hbad => ?_, fun hin hbad => ?_⟩,
    fun sl tag s hin hsave => ?_, fun sl pin tag s hin hsave => ?_, fun sl a b tag s ha hb hin hsave => ?_⟩
  · refine State.request_refused hin rfl ?_ rfl
    simp only [answerSeamDelete, hsave, Idx4.ofNat?_eq_none.2 hbad, Bool.false_eq_true, if_false]
  · refine State.request_refused hin rfl ?_ rfl
    simp only [answerSeamPin, hsave, Bool.false_eq_true, if_false]
    rcases hbad with h | h
    · rw [Idx4.ofNat?_eq_none.2 h]
    · rw [Pin.ofCode?_eq_none h]
      split
      · simp_all
      · rfl
  · refine State.request_refused hin rfl ?_ rfl
    simp only [answerSeamFades, hsave, Idx4.ofNat?_eq_none.2 hbad, Bool.false_eq_true, if_false]
  · have h0 : u8 (be1 sl.toNat) 0 = sl.toNat := u8_be1_idx sl []
    refine State.request_answered hin rfl ?_ rfl
    simp only [answerSeamDelete, hsave, h0, Idx4.ofNat?_toNat, Bool.false_eq_true, if_false]
    rfl
  · have h0 : u8 (be1 sl.toNat ++ be1 pin.code) 0 = sl.toNat := u8_be1_idx ..
    have h1 : u8 (be1 sl.toNat ++ be1 pin.code) 1 = pin.code := by
      cases pin with
      | auto => rfl
      | fixed m => cases m <;> rfl
    refine ⟨fun q hq => State.request_answered hin rfl (st := .done) (r := []) ?_ rfl,
      fun hq => State.request_refused hin rfl ?_ rfl⟩
    · simp only [answerSeamPin, hsave, h0, h1, Idx4.ofNat?_toNat, Pin.ofCode?_code, hq, Bool.false_eq_true, if_false, done]
    · simp only [answerSeamPin, hsave, h0, h1, Idx4.ofNat?_toNat, Pin.ofCode?_code, hq, Bool.false_eq_true, if_false]
  · have h0 : u8 (be1 sl.toNat ++ be1 a ++ be1 b) 0 = sl.toNat := by rw [List.append_assoc, u8_be1_idx]
    have h1 : u8 (be1 sl.toNat ++ be1 a ++ be1 b) 1 = a := Nat.mod_eq_of_lt ha
    have h2 : u8 (be1 sl.toNat ++ be1 a ++ be1 b) 2 = b := Nat.mod_eq_of_lt hb
    refine ⟨fun q hq => State.request_answered hin rfl (st := .done) (r := []) ?_ rfl,
      fun hq => State.request_refused hin rfl ?_ rfl⟩
    · simp only [answerSeamFades, hsave, h0, h1, h2, Idx4.ofNat?_toNat, hq, Bool.false_eq_true, if_false, done]
    · simp only [answerSeamFades, hsave, h0, Idx4.ofNat?_toNat, hq, Bool.false_eq_true, if_false]

/-- Settles O33: the entries are clamped before the law is tried. -/
theorem curveWrite : Obligations.CurveWrite := by
  intro n l tag s hn hlen hl body c keeps hin hsave
  obtain ⟨en, el⟩ : u8 body 0 = n ∧ entriesAt body 1 65 = l := entries_of_body hn hlen hl
  have hkeeps : keeps ↔ 3 ≤ n ∧ n ≤ 7 ∧ curveOk c = true := by
    have hc : c.length = 65 := by simp [c, hlen]
    have hfirst : c.getD 0 1 = c.getD 0 0 := by simp [List.getD, hc]
    simp only [keeps, curveOk_iff, hc, hfirst, true_and]
  clear_value body
  have hrule : answerCurveWrite .ap body s = if 3 ≤ n ∧ n ≤ 7 ∧ curveOk c = true then
      adjusted { s with curves := s.curves.write n c } (decide (c ≠ l)) else refuse s .invalid := by
    simp only [answerCurveWrite, hsave, en, el, c, Bool.false_eq_true, if_false]
  refine ⟨fun hno => ?_, fun hyes => ?_⟩
  · exact State.request_refused hin rfl (hrule.trans (if_neg (mt hkeeps.2 hno))) rfl
  · have hk := hkeeps.1 hyes
    refine ⟨s.curves.write n c, Curves.curve_write ⟨hk.1, hk.2.1⟩ s.curves c,
      State.request_answered hin rfl ((hrule.trans (if_pos hk)).trans (adjusted_eq _ _ ?_)) rfl⟩
    rw [decide_eq_false_iff_not, not_not]
    exact map_min_eq_self 4096 l

end Sys2Proof

/-! SUPPORT. The nodes of a body read back, the runs of the long mesh operations said once place by place, where a chunk
ends, and what a packet that arrives leaves of the banks. -/

namespace Sys2Proof.Machine

/-! ## Nodes on the wire -/

/-- A signed number behind other bytes reads back. -/
theorem s24_behind (pre r : List Byte) {x : Int} (hx : fits3 x) : s24 (pre ++ (be3s x ++ r)) pre.length = x := by
  rw [s24_append_right _ _ _ le_rfl, Nat.sub_self, s24_be3s x r hx]

theorem nodeAt_read (n : Node) (r : List Byte) (hu : fits3 n.u) (hv : fits3 n.v) : nodeAt (nodeBytes n ++ r) 0 = n := by
  obtain ⟨u, v, x⟩ := n
  have eu : s24 (be3s u ++ be3s v ++ beBool x ++ r) 0 = u := by
    rw [List.append_assoc, List.append_assoc]
    exact s24_behind [] _ hu
  have ev : s24 (be3s u ++ be3s v ++ beBool x ++ r) 3 = v := by
    rw [List.append_assoc, List.append_assoc]
    exact s24_behind (be3s u) _ hv
  have ex : u8 (be3s u ++ be3s v ++ beBool x ++ r) 6 = if x then 1 else 0 := by cases x <;> rfl
  simp only [nodeAt, nodeBytes, Nat.zero_add, eu, ev, ex, Node.mk.injEq, true_and]
  cases x <;> rfl

theorem nodeAt_append_right (l r : List Byte) (i : Nat) (h : l.length ≤ i) :
    nodeAt (l ++ r) i = nodeAt r (i - l.length) := by
  simp only [nodeAt, s24_append_right l r i h, s24_append_right l r (i + 3) (by omega),
    u8_append_right l r (i + 6) (by omega), Nat.sub_add_comm h]

@[simp] theorem nodeBytes_length (n : Node) : (nodeBytes n).length = 7 := by simp [nodeBytes, beBool]

/-- Nodes written one after another read back. -/
theorem nodes_read (l : List Node) (hl : ∀ n ∈ l, fits3 n.u ∧ fits3 n.v) (r : List Byte) :
    (List.range l.length).map (fun k => nodeAt (l.flatMap nodeBytes ++ r) (7 * k)) = l := by
  induction l with
  | nil => rfl
  | cons n l ih =>
    obtain ⟨hu, hv⟩ := hl n (List.mem_cons_self ..)
    rw [List.length_cons, List.range_succ_eq_map, List.map_cons, List.map_map]
    refine congrArg₂ _ ?_ ?_
    · rw [List.flatMap_cons, List.append_assoc]
      exact nodeAt_read n _ hu hv
    · refine Eq.trans (List.map_congr_left fun k _ => ?_) (ih fun y hy => hl y (List.mem_cons_of_mem _ hy))
      simp only [Function.comp, List.flatMap_cons, List.append_assoc]
      rw [nodeAt_append_right _ _ _ (by simp)]
      congr 1

/-- The nodes written behind a fixed part of a body read back from there. -/
theorem nodesAt_append (pre : List Byte) (l : List Node) (hl : ∀ n ∈ l, fits3 n.u ∧ fits3 n.v) :
    nodesAt (pre ++ l.flatMap nodeBytes) pre.length l.length = l := by
  have h := nodes_read l hl []
  rw [List.append_nil] at h
  conv_rhs => rw [← h]
  refine List.map_congr_left fun k _ => ?_
  rw [nodeAt_append_right _ _ _ (by omega)]
  congr 1
  omega

/-! ## Runs -/

/-- What a rewritten run leaves at each place. -/
theorem rewriteRun_get (f : Nat → Node → Node) : ∀ (n k i : Nat) (bank : List Node), k + n ≤ bank.length →
    (rewriteRun f n k bank).1[i]? =
      if k ≤ i ∧ i < k + n then bank[i]?.map fun old => (f i old).clamp else bank[i]?
  | 0, k, i, bank, _ => by rw [if_neg (by omega)]; rfl
  | n + 1, k, i, bank, h => by
    simp only [rewriteRun]
    rw [rewriteRun_get f n (k + 1) i _ (by simp only [List.length_set]; omega)]
    by_cases hi : i = k
    · subst hi
      rw [if_neg (by omega), if_pos (by omega), List.getElem?_set_self (by omega),
        List.getElem?_eq_getElem (by omega : i < bank.length)]
      simp [List.getD, List.getElem?_eq_getElem (by omega : i < bank.length)]
    · rw [List.getElem?_set_ne (by omega)]
      exact if_congr (by omega) rfl rfl

/-- The count of a rewritten run: the nodes that the clamp moved. -/
theorem rewriteRun_count (f : Nat → Node → Node) : ∀ (n k : Nat) (bank : List Node),
    (rewriteRun f n k bank).2 = (List.range n).countP fun j =>
      decide ((f (k + j) (bank.getD (k + j) Node.none)).clamp ≠ f (k + j) (bank.getD (k + j) Node.none))
  | 0, _, _ => rfl
  | n + 1, k, bank => by
    simp only [rewriteRun]
    rw [rewriteRun_count f n (k + 1), List.range_succ_eq_map, List.countP_cons, List.countP_map]
    congr 1
    · refine List.countP_congr fun j _ => ?_
      have hplace : k + 1 + j = k + (j + 1) := by omega
      have hnode : (bank.set k (f k (bank.getD k Node.none)).clamp).getD (k + (j + 1)) Node.none =
          bank.getD (k + (j + 1)) Node.none := by
        simp only [List.getD]
        rw [List.getElem?_set_ne (by omega)]
      simp only [Function.comp, hplace, hnode, Nat.succ_eq_add_one]
    · simp only [Nat.add_zero, decide_eq_true_eq, ne_eq, ite_not]

/-- What a copy from another bank leaves at each place. -/
theorem copyRun_get (src : List Node) : ∀ (n a b i : Nat) (bank : List Node), a + n ≤ src.length →
    b + n ≤ bank.length →
    (copyRun src n a b bank)[i]? = if b ≤ i ∧ i < b + n then src[a + (i - b)]? else bank[i]?
  | 0, a, b, i, bank, _, _ => by rw [if_neg (by omega)]; rfl
  | n + 1, a, b, i, bank, hs, hb => by
    simp only [copyRun]
    rw [copyRun_get src n (a + 1) (b + 1) i _ (by omega) (by simp only [List.length_set]; omega)]
    by_cases hi : i = b
    · subst hi
      rw [if_neg (by omega), if_pos (by omega), List.getElem?_set_self (by omega), Nat.sub_self, Nat.add_zero,
        List.getElem?_eq_getElem (by omega : a < src.length)]
      simp [List.getD, List.getElem?_eq_getElem (by omega : a < src.length)]
    · rw [List.getElem?_set_ne (by omega)]
      by_cases hin : b + 1 ≤ i ∧ i < b + 1 + n
      · rw [if_pos hin, if_pos (by omega)]
        congr 1
        omega
      · rw [if_neg hin, if_neg (by omega)]

/-- A copy inside a bank, its last node split off. -/
theorem copyWithin_succ : ∀ (n a b : Nat) (bank : List Node), copyWithin (n + 1) a b bank =
    (copyWithin n a b bank).set (b + n) ((copyWithin n a b bank).getD (a + n) Node.none)
  | 0, _, _, _ => rfl
  | n + 1, a, b, bank => by
    have ih := copyWithin_succ n (a + 1) (b + 1) (bank.set b (bank.getD a Node.none))
    rw [show b + 1 + n = b + (n + 1) by omega, show a + 1 + n = a + (n + 1) by omega] at ih
    exact ih

/-- A copy inside a bank leaves the places outside its run. -/
theorem copyWithin_outside : ∀ (n a b i : Nat) (bank : List Node), i < b ∨ b + n ≤ i →
    (copyWithin n a b bank)[i]? = bank[i]?
  | 0, _, _, _, _, _ => rfl
  | n + 1, a, b, i, bank, h => by
    rw [copyWithin_succ, List.getElem?_set_ne (by omega), copyWithin_outside n a b i bank (by omega)]

/-- What a copy inside a bank leaves in its run: forward it repeats the nodes before it, backward it copies
(R44). -/
theorem copyWithin_inside (a b : Nat) (bank : List Node) : ∀ n, a + n ≤ bank.length → b + n ≤ bank.length →
    ∀ k, k < n → (copyWithin n a b bank)[b + k]? = bank[a + if a < b then k % (b - a) else k]? := by
  intro n
  induction n with
  | zero => exact fun _ _ k hk => absurd hk (Nat.not_lt_zero k)
  | succ n ih =>
    intro ha hb k hk
    have hlen : b + n < (copyWithin n a b bank).length := by rw [copyWithin_length]; omega
    have hread : (copyWithin n a b bank)[a + n]? = bank[a + if a < b then n % (b - a) else n]? := by
      by_cases hab : a < b
      · rw [if_pos hab]
        by_cases hn : a + n < b
        · rw [copyWithin_outside n a b _ bank (.inl hn), Nat.mod_eq_of_lt (by omega)]
        · have h := ih (by omega) (by omega) (n - (b - a)) (by omega)
          rw [if_pos hab, ← Nat.mod_eq_sub_mod (by omega)] at h
          rw [← h]
          congr 1
          omega
      · rw [if_neg hab]
        by_cases he : a = b
        · subst he
          exact copyWithin_outside n a a _ bank (.inr le_rfl)
        · exact copyWithin_outside n a b _ bank (.inr (by omega))
    rw [copyWithin_succ]
    by_cases hkn : k = n
    · subst hkn
      have hin : a + (if a < b then k % (b - a) else k) < bank.length := by
        have := Nat.mod_le k (b - a)
        split <;> omega
      rw [List.getElem?_set_self hlen]
      simp only [List.getD, hread]
      rw [List.getElem?_eq_getElem hin]
      rfl
    · rw [List.getElem?_set_ne (by omega)]
      exact ih (by omega) (by omega) k (by omega)

/-! ## What an operation leaves of the work on the meshes -/

/-- Every head's banks and pending commit are the same. -/
def State.SameWork (s t : State) : Prop := ∀ h, (t.mesh.get h).staged = (s.mesh.get h).staged ∧
  (t.mesh.get h).active = (s.mesh.get h).active ∧ (t.mesh.get h).commitPending = (s.mesh.get h).commitPending

theorem State.SameWork.refl (s : State) : s.SameWork s := fun _ => ⟨rfl, rfl, rfl⟩

theorem State.SameWork.trans {s t u : State} (h : s.SameWork t) (h' : t.SameWork u) : s.SameWork u := fun k =>
  ⟨(h' k).1.trans (h k).1, (h' k).2.1.trans (h k).2.1, (h' k).2.2.trans (h k).2.2⟩

theorem State.SameWork.of_mesh {s t : State} (h : t.mesh = s.mesh) : s.SameWork t := fun k => by simp [h]

theorem HeadMesh.restartTimer_work (p : Port) (m : HeadMesh) : (m.restartTimer p).staged = m.staged ∧
    (m.restartTimer p).active = m.active ∧ (m.restartTimer p).commitPending = m.commitPending := by
  rw [HeadMesh.restartTimer_eq]
  split <;> exact ⟨rfl, rfl, rfl⟩

theorem State.SameWork.touch (h : Option Head) (p : Port) (s : State) : s.SameWork (s.touch h p) := by
  cases h with
  | none => exact .refl s
  | some h =>
    intro k
    simp only [State.touch, Quad.get_set]
    split
    · rename_i e
      exact e ▸ HeadMesh.restartTimer_work p _
    · exact ⟨rfl, rfl, rfl⟩

/-- A packet restarts timers of claims, and does nothing else to the meshes (R24, R165). -/
theorem State.packetArrives_mesh (p : Port) (tag kind : Byte) (body : List Byte) (s : State) :
    (s.packetArrives p tag kind body).mesh = s.mesh.map (·.restartTimer p) := by
  have hheard : (s.heard p).mesh = s.mesh.map (·.restartTimer p) := by
    cases p <;> simp [State.heard, State.restartClaims]
  rw [State.packetArrives_eq]
  split
  · simpa using hheard
  · split
    · simpa using hheard
    · split
      · simpa using hheard
      · split <;> simpa using hheard

theorem State.SameWork.packetArrives (p : Port) (tag kind : Byte) (body : List Byte) (s : State) :
    s.SameWork (s.packetArrives p tag kind body) := fun k => by
  rw [State.packetArrives_mesh, Quad.get_map]
  exact HeadMesh.restartTimer_work p _

theorem State.SameWork.receiveAll (l : List Arrival) (s : State) : s.SameWork (s.receiveAll l) :=
  State.receiveAll_keeps (P := s.SameWork) (fun _ _ _ h => h.trans (.of_mesh rfl))
    (fun _ _ _ _ h => h.trans (.of_mesh (by simp)))
        (fun _ _ _ _ _ h => h.trans (State.SameWork.packetArrives _ _ _ _ _)) l s (.refl s)

theorem State.SameWork.comeIn (p : Port) (tag : Byte) (k : Kind) (body : List Byte) (s : State) :
    s.SameWork (s.comeIn p tag k body) := by
  unfold State.comeIn
  split
  · exact .trans (.of_mesh rfl) (State.SameWork.packetArrives _ _ _ _ _)
  · exact .refl s

theorem State.SameWork.chunk (p : Port) (count : Nat) (during : List Arrival) (s : State) :
    s.SameWork (s.chunk p count during).state :=
  State.chunk_keeps (P := s.SameWork) (fun _ _ _ h => h.trans (.of_mesh rfl))
    (fun _ _ _ _ h => h.trans (.of_mesh (by simp)))
        (fun _ _ _ _ _ h => h.trans (State.SameWork.packetArrives _ _ _ _ _)) p count during s
    (.refl s)

/-! ## Chunks -/

theorem State.othersWait_iff (s : State) (p : Port) : s.othersWait p = true ↔ ∃ e ∈ s.queue, e.port ≠ p := by
  simp [State.othersWait]

theorem State.receiveAll_append (l r : List Arrival) (s : State) :
    s.receiveAll (l ++ r) = (s.receiveAll l).receiveAll r := List.foldl_append

/-- Where the run of a chunk from `n` processed nodes on ends (R45). -/
structure Chunk.Runs (c : Chunk) (p : Port) (count n : Nat) (during : List Arrival) (s : State) : Prop where
  least : min count (min 512 (n + 64)) ≤ c.processed
  atMost : c.processed ≤ count ∧ c.processed ≤ 512
  short : c.processed < count → c.processed % 64 = 0 ∧ (c.processed = 512 ∨ ∃ e ∈ c.state.queue, e.port ≠ p)
  received : ∃ due, during = due ++ c.rest ∧ c.state = s.receiveAll due
  alone : during = [] → (¬ ∃ e ∈ s.queue, e.port ≠ p) → c.processed = min count 512
  awaited : during = [] → n < 512 → (∃ e ∈ s.queue, e.port ≠ p) → c.processed = min count (n + 64)

theorem runChunk_runs (p : Port) (count : Nat) : ∀ (fuel n : Nat) (during : List Arrival) (s : State), n < count →
    n + 64 * fuel = 512 → (runChunk p count fuel n during s).Runs p count n during s
  | 0, n, during, s, hn, hf =>
    { least := by simp only [runChunk]; omega
      atMost := ⟨hn.le, by simp only [runChunk]; omega⟩
      short := fun _ => ⟨by simp only [runChunk]; omega, .inl (by simp only [runChunk]; omega)⟩
      received := ⟨[], rfl, rfl⟩
      alone := fun _ _ => by simp only [runChunk]; omega
      awaited := fun _ h _ => by omega }
  | fuel + 1, n, during, s, hn, hf => by
    obtain ⟨due, hdue⟩ : ∃ due, due = during.takeWhile fun a => decide (a.after ≤ min (n + 64) count) := ⟨_, rfl⟩
    have hsplit : during = due ++ during.drop due.length := by
      obtain ⟨r, hr⟩ := hdue ▸ List.takeWhile_prefix (p := fun a : Arrival => decide (a.after ≤ min (n + 64) count))
        (l := during)
      rw [← hr, List.drop_left]
    have hnil : during = [] → due = [] := fun e => by rw [hdue, e]; rfl
    have hnone : during = [] → s.receiveAll due = s := fun e => by rw [hnil e]; rfl
    have hrun : runChunk p count (fuel + 1) n during s =
        if min (n + 64) count = count then ⟨s.receiveAll due, min (n + 64) count, during.drop due.length⟩
        else if (s.receiveAll due).othersWait p then ⟨s.receiveAll due, min (n + 64) count, during.drop due.length⟩
        else runChunk p count fuel (min (n + 64) count) (during.drop due.length) (s.receiveAll due) := by
      rw [hdue]
      rfl
    rw [hrun]
    split
    · exact
        { least := by dsimp only; omega
          atMost := ⟨by dsimp only; omega, by dsimp only; omega⟩
          short := fun h => by dsimp only at h; omega
          received := ⟨due, hsplit, rfl⟩
          alone := fun _ _ => by dsimp only; omega
          awaited := fun _ _ _ => by dsimp only; omega }
    split
    · rename_i hne hw
      have hmin : min (n + 64) count = n + 64 := by omega
      exact
        { least := by dsimp only; omega
          atMost := ⟨by dsimp only; omega, by dsimp only; omega⟩
          short := fun _ => ⟨by dsimp only; omega, .inr ((State.othersWait_iff _ p).1 hw)⟩
          received := ⟨due, hsplit, rfl⟩
          alone := fun e ha => absurd ((State.othersWait_iff s p).1 (hnone e ▸ hw)) ha
          awaited := fun _ _ _ => by dsimp only; omega }
    · rename_i hne hw
      have hmin : min (n + 64) count = n + 64 := by omega
      rw [hmin]
      obtain ⟨hleast, hatMost, hshort, ⟨due', hsplit', hstate⟩, halone, -⟩ :=
        runChunk_runs p count fuel (n + 64) (during.drop due.length) (s.receiveAll due) (by omega) (by omega)
      refine ⟨by omega, hatMost, hshort, ⟨due ++ due', ?_, ?_⟩, fun e ha => ?_, fun e _ ha => ?_⟩
      · rw [List.append_assoc, ← hsplit']
        exact hsplit
      · rw [State.receiveAll_append]
        exact hstate
      · refine halone (by rw [e, List.drop_nil]) ?_
        rw [hnone e]
        exact ha
      · rw [hnone e, State.othersWait_iff] at hw
        exact absurd ha hw

/-- The chunk of a request (R45). -/
theorem State.chunk_runs (s : State) (p : Port) {count : Nat} (during : List Arrival) (h : 1 ≤ count) :
    (s.chunk p count during).Runs p count 0 during s := runChunk_runs p count 8 0 during s h rfl

end Sys2Proof.Machine

/-! PROVES. Where a chunk ends. -/

namespace Sys2Proof

open Sys2Proof.Machine

/-- Settles O42: the run of the chunk from its start. -/
theorem chunkBound : Obligations.ChunkBound := by
  intro p count during s hcount c waits
  obtain ⟨hleast, ⟨hcount', h512⟩, hshort, hreceived, halone, hawaited⟩ := State.chunk_runs s p during hcount
  refine ⟨le_trans (by omega) hleast, hcount', h512, hshort, hreceived, halone, fun e hw => ?_⟩
  rw [hawaited e (by omega) hw, Nat.zero_add, Nat.min_comm]

end Sys2Proof

/-! SUPPORT. The examination of a mesh request and what its rule does past it. -/

namespace Sys2Proof.Machine

/-! ## Numbers behind other bytes -/

theorem u8_behind (pre r : List Byte) {n : Nat} (hn : n < 256) : u8 (pre ++ (be1 n ++ r)) pre.length = n := by
  rw [u8_append_right _ _ _ le_rfl, Nat.sub_self, u8_be1, Nat.mod_eq_of_lt hn]

theorem u16_behind (pre r : List Byte) {n : Nat} (hn : fits2 n) : u16 (pre ++ (be2 n ++ r)) pre.length = n := by
  rw [u16_append_right _ _ _ le_rfl, Nat.sub_self, u16_be2, Nat.mod_eq_of_lt hn]

/-- The fields of MESH_GENERATE read back. -/
theorem meshGenerate_fields {h : Head} {start count : Nat} {g : Affine} (hs : fits2 start) (hc : fits2 count)
    (hou : fits3 g.ou) (hov : fits3 g.ov) (hcu : fits3 g.cu) (hcv : fits3 g.cv) (hru : fits3 g.ru) (hrv : fits3 g.rv)
    (hvis : g.visible < 256) :
    let body := be1 h.toNat ++ be2 start ++ be2 count ++ be3s g.ou ++ be3s g.ov ++ be3s g.cu ++ be3s g.cv ++
      be3s g.ru ++ be3s g.rv ++ be1 g.visible
    u8 body 0 = h.toNat ∧ u16 body 1 = start ∧ u16 body 3 = count ∧
      (⟨s24 body 5, s24 body 8, s24 body 11, s24 body 14, s24 body 17, s24 body 20, u8 body 23⟩ : Affine) = g := by
  obtain ⟨ou, ov, cu, cv, ru, rv, vis⟩ := g
  intro body
  have hhead : body = be1 h.toNat ++ (be2 start ++ (be2 count ++ (be3s ou ++ (be3s ov ++ (be3s cu ++ (be3s cv ++
      (be3s ru ++ (be3s rv ++ be1 vis)))))))) := by simp only [body, List.append_assoc]
  clear_value body
  subst hhead
  refine ⟨u8_be1_idx .., u16_behind (be1 h.toNat) _ hs, u16_behind (be1 h.toNat ++ be2 start) _ hc, ?_⟩
  rw [Affine.mk.injEq]
  let pre := be1 h.toNat ++ be2 start ++ be2 count
  exact ⟨s24_behind pre (be3s ov ++ (be3s cu ++ (be3s cv ++ (be3s ru ++ (be3s rv ++ be1 vis))))) hou,
    s24_behind (pre ++ be3s ou) (be3s cu ++ (be3s cv ++ (be3s ru ++ (be3s rv ++ be1 vis)))) hov,
    s24_behind (pre ++ be3s ou ++ be3s ov) (be3s cv ++ (be3s ru ++ (be3s rv ++ be1 vis))) hcu,
    s24_behind (pre ++ be3s ou ++ be3s ov ++ be3s cu) (be3s ru ++ (be3s rv ++ be1 vis)) hcv,
    s24_behind (pre ++ be3s ou ++ be3s ov ++ be3s cu ++ be3s cv) (be3s rv ++ be1 vis) hru,
    s24_behind (pre ++ be3s ou ++ be3s ov ++ be3s cu ++ be3s cv ++ be3s ru) (be1 vis) hrv,
    u8_behind (pre ++ be3s ou ++ be3s ov ++ be3s cu ++ be3s cv ++ be3s ru ++ be3s rv) [] hvis⟩

/-- The fields of MESH_SHIFT read back. -/
theorem meshShift_fields {h : Head} {start count : Nat} {du dv : Int} (hs : fits2 start) (hc : fits2 count)
    (hdu : fits3 du) (hdv : fits3 dv) :
    let body := be1 h.toNat ++ be2 start ++ be2 count ++ be3s du ++ be3s dv
    u8 body 0 = h.toNat ∧ u16 body 1 = start ∧ u16 body 3 = count ∧ s24 body 5 = du ∧ s24 body 8 = dv :=
  ⟨u8_be1_idx .., u16_behind (be1 h.toNat) (be2 count ++ (be3s du ++ be3s dv)) hs,
    u16_behind (be1 h.toNat ++ be2 start) (be3s du ++ be3s dv) hc,
    s24_behind (be1 h.toNat ++ be2 start ++ be2 count) (be3s dv) hdu,
    s24_behind (be1 h.toNat ++ be2 start ++ be2 count ++ be3s du) [] hdv⟩

/-- The fields of MESH_COPY read back. -/
theorem meshCopy_fields {h : Head} {start count source sel from_ : Nat} (hs : fits2 start) (hc : fits2 count)
    (hsource : source < 256) (hsel : sel < 256) (hfrom : fits2 from_) :
    let body := be1 h.toNat ++ be2 start ++ be2 count ++ be1 source ++ be1 sel ++ be2 from_
    u8 body 0 = h.toNat ∧ u16 body 1 = start ∧ u16 body 3 = count ∧ u8 body 5 = source ∧ u8 body 6 = sel ∧
      u16 body 7 = from_ :=
  ⟨u8_be1_idx .., u16_behind (be1 h.toNat) (be2 count ++ (be1 source ++ (be1 sel ++ be2 from_))) hs,
    u16_behind (be1 h.toNat ++ be2 start) (be1 source ++ (be1 sel ++ be2 from_)) hc,
    u8_behind (be1 h.toNat ++ be2 start ++ be2 count) (be1 sel ++ be2 from_) hsource,
    u8_behind (be1 h.toNat ++ be2 start ++ be2 count ++ be1 source) (be2 from_) hsel,
    u16_behind (be1 h.toNat ++ be2 start ++ be2 count ++ be1 source ++ be1 sel) [] hfrom⟩

/-! ## Requests carried out -/

/-- A request refused with a change of its own. -/
theorem State.request_refused_with {k : Kind} {f : Port → List Byte → State → Answer} {p : Port} {tag : Byte}
    {body : List Byte} {s u : State} {st : Status} (h : s.hasInHand k p tag body) (ha : s.authorised k p body = true)
    (hf : f p body s = refuse u st) (hst : st.carried = false) :
    s.request k f p tag body = .next (u.answered p ⟨tag, st, []⟩) := by
  rw [State.request_allowed h ha, hf]
  simp [refuse, hst]

theorem State.requestLong_refused {k : Kind} {f : List Arrival → Port → List Byte → State → LongAnswer} {p : Port}
    {tag : Byte} {body : List Byte} {during : List Arrival} {s u : State} {st : Status}
    (h : s.hasInHand k p tag body) (ha : s.authorised k p body = true)
    (hf : f during p body s = longRefuse (refuse u st) during) (hst : st.carried = false) :
    s.requestLong k f p tag body during = .next ((u.answered p ⟨tag, st, []⟩).receiveAll during) := by
  rw [State.requestLong_allowed h ha, hf]
  simp [refuse, longRefuse, hst]

theorem State.requestLong_carried {k : Kind} {f : List Arrival → Port → List Byte → State → LongAnswer} {p : Port}
    {tag : Byte} {body : List Byte} {during rest : List Arrival} {s u : State} {st : Status} {r : List Byte} {n : Head}
    (h : s.hasInHand k p tag body) (ha : s.authorised k p body = true)
    (hf : f during p body s = ⟨⟨u, st, r⟩, rest⟩) (hk : kindHead? k body = some n) (hc : st.carried = true) :
    s.requestLong k f p tag body during =
      .next (((u.touch (some n) p).answered p ⟨tag, st, r⟩).receiveAll rest) := by
  rw [State.requestLong_allowed h ha, hf, hk, if_pos hc]

/-! ## Lapse timers -/

/-- No timer restarts without a claim, or while a commit is pending. -/
theorem HeadMesh.restartTimer_idle {p : Port} {m : HeadMesh} (h : m.claim = none ∨ m.commitPending = true) :
    m.restartTimer p = m := by
  rw [HeadMesh.restartTimer_eq]
  rcases h with h | h <;> simp [h]

theorem State.touch_idle {p : Port} {h : Head} {s : State}
    (hi : (s.mesh.get h).claim = none ∨ (s.mesh.get h).commitPending = true) : s.touch (some h) p = s := by
  simp only [State.touch, HeadMesh.restartTimer_idle hi, Quad.set_get]

/-- A request that is done on a head where no lapse timer restarts. -/
theorem State.request_untouched {k : Kind} {f : Port → List Byte → State → Answer} {p : Port} {tag : Byte}
    {body : List Byte} {s u : State} {n : Head} (h : s.hasInHand k p tag body) (ha : s.authorised k p body = true)
    (hf : f p body s = done u) (hk : kindHead? k body = some n)
    (hi : (u.mesh.get n).claim = none ∨ (u.mesh.get n).commitPending = true) :
    s.request k f p tag body = .next (u.answered p ⟨tag, .done, []⟩) := by
  rw [State.request_carried (st := .done) h ha hf hk rfl, State.touch_idle hi]

theorem HeadMesh.takeClaim_eq (p : Port) (m : HeadMesh) : m.takeClaim p =
    if m.claim = none then { m with claim := some ⟨p, 0⟩, lapse := none } else m := by
  unfold HeadMesh.takeClaim
  cases m.claim <;> rfl

/-- A bank written under a claim that is the port's, now or before. -/
theorem HeadMesh.restartTimer_takeClaim {p : Port} {m : HeadMesh} (bank : List Node) (hp : m.commitPending = false)
    (hc : ∀ c, m.claim = some c → c.owner = p) :
    ({ m.takeClaim p with staged := bank } : HeadMesh).restartTimer p = { m with
      staged := bank
      claim := some ⟨p, 0⟩
      lapse := if m.claim = none then none else m.lapse } := by
  rw [HeadMesh.restartTimer_eq, HeadMesh.takeClaim_eq]
  cases h : m.claim with
  | none => simp [hp]
  | some c => simp [hp, h, hc c h]

/-! ## Examinations -/

section Examination

variable {p : Port} {index : Nat} {h : Head} {s : State} {rule : Head → Answer} {long : Head → LongAnswer}
  {during : List Arrival}

theorem examine_none (hx : Idx4.ofNat? index = none) : examine p index s rule = refuse s .invalid := by
  simp only [examine, hx]

theorem examine_lapsed (hx : Idx4.ofNat? index = some h) (hl : (s.mesh.get h).lapse = some p) :
    examine p index s rule = refuse (s.clearLapse h) .lapsed := by
  simp only [examine, hx, hl, if_true]

theorem examine_some (hx : Idx4.ofNat? index = some h) (hl : (s.mesh.get h).lapse ≠ some p) :
    examine p index s rule = rule h := by
  simp only [examine, hx, hl, if_false]

theorem examineEdit_pending (hx : Idx4.ofNat? index = some h) (hl : (s.mesh.get h).lapse ≠ some p)
    (hp : (s.mesh.get h).commitPending = true) : examineEdit p index s rule = refuse s .busy :=
  (examine_some hx hl).trans (if_pos hp)

theorem examineEdit_claimed (hx : Idx4.ofNat? index = some h) (hl : (s.mesh.get h).lapse ≠ some p)
    (hc : (s.mesh.get h).claimedByOther p = true) : examineEdit p index s rule = refuse s .busy := by
  refine (examine_some hx hl).trans ?_
  simp only [hc, if_true, ite_self]

theorem examineEdit_some (hx : Idx4.ofNat? index = some h) (hl : (s.mesh.get h).lapse ≠ some p)
    (hp : (s.mesh.get h).commitPending = false) (hc : ∀ c, (s.mesh.get h).claim = some c → c.owner = p) :
    examineEdit p index s rule = rule h := by
  refine (examine_some hx hl).trans ?_
  simp only [hp, HeadMesh.claimedByOther_eq_false.2 hc, Bool.false_eq_true, if_false]

theorem examineLong_none (hx : Idx4.ofNat? index = none) :
    examineLong p index during s long = longRefuse (refuse s .invalid) during := by
  simp only [examineLong, hx]

theorem examineLong_lapsed (hx : Idx4.ofNat? index = some h) (hl : (s.mesh.get h).lapse = some p) :
    examineLong p index during s long = longRefuse (refuse (s.clearLapse h) .lapsed) during := by
  simp only [examineLong, hx, hl, if_true]

theorem examineLong_pending (hx : Idx4.ofNat? index = some h) (hl : (s.mesh.get h).lapse ≠ some p)
    (hp : (s.mesh.get h).commitPending = true) :
    examineLong p index during s long = longRefuse (refuse s .busy) during := by
  simp only [examineLong, hx, hl, hp, if_true, if_false]

theorem examineLong_claimed (hx : Idx4.ofNat? index = some h) (hl : (s.mesh.get h).lapse ≠ some p)
    (hc : (s.mesh.get h).claimedByOther p = true) :
    examineLong p index during s long = longRefuse (refuse s .busy) during := by
  simp only [examineLong, hx, hl, hc, if_true, if_false, ite_self]

theorem examineLong_some (hx : Idx4.ofNat? index = some h) (hl : (s.mesh.get h).lapse ≠ some p)
    (hp : (s.mesh.get h).commitPending = false) (hc : ∀ c, (s.mesh.get h).claim = some c → c.owner = p) :
    examineLong p index during s long = long h := by
  simp only [examineLong, hx, hl, hp, HeadMesh.claimedByOther_eq_false.2 hc, Bool.false_eq_true, if_false]

end Examination

/-- The modifying mesh request k is refused with the state u and the status st. -/
def MeshRefuses (k : Kind) (p : Port) (body : List Byte) (s u : State) (st : Status) : Prop :=
  match k with
  | .meshWrite => answerMeshWrite p body s = refuse u st
  | .meshCommit => answerMeshCommit p body s = refuse u st
  | .meshDiscard => answerMeshDiscard p body s = refuse u st
  | .meshGenerate => answerMeshGenerate [] p body s = longRefuse (refuse u st) []
  | .meshShift => answerMeshShift [] p body s = longRefuse (refuse u st) []
  | .meshCopy => answerMeshCopy [] p body s = longRefuse (refuse u st) []
  | _ => False

/-- A modifying mesh request in hand whose rule refuses it is answered so. -/
theorem exec_meshRefused {k : Kind} {p : Port} {tag : Byte} {body : List Byte} {s u : State} {st : Status}
    (h : s.hasInHand k p tag body) (ha : s.authorised k p body = true) (hr : MeshRefuses k p body s u st)
    (hst : st.carried = false) : exec (k.command p tag body) s = .next (u.answered p ⟨tag, st, []⟩) := by
  cases k <;> first
    | exact State.request_refused_with h ha hr hst
    | exact State.requestLong_refused h ha hr hst
    | exact absurd hr not_false

section Refusals

variable {k : Kind} {p : Port} {body : List Byte} {s : State} {h : Head}
  (hk : k ∈ [Kind.meshWrite, .meshCommit, .meshDiscard, .meshGenerate, .meshShift, .meshCopy])
  (hf : k = .meshDiscard → ∃ b, bool? (u8 body 1) = some b)
include hk hf

/-- Step 1 of R23. -/
theorem meshRefuses_head (hx : Idx4.ofNat? (u8 body 0) = none) : MeshRefuses k p body s s .invalid := by
  fin_cases hk
  · exact examine_none hx
  · exact examine_none hx
  · obtain ⟨b, hb⟩ := hf rfl
    simp only [MeshRefuses, answerMeshDiscard, hb]
    exact examine_none hx
  · exact examineLong_none hx
  · exact examineLong_none hx
  · exact examineLong_none hx

/-- Step 2 of R23. -/
theorem meshRefuses_lapsed (hx : Idx4.ofNat? (u8 body 0) = some h) (hl : (s.mesh.get h).lapse = some p) :
    MeshRefuses k p body s (s.clearLapse h) .lapsed := by
  fin_cases hk
  · exact examine_lapsed hx hl
  · exact examine_lapsed hx hl
  · obtain ⟨b, hb⟩ := hf rfl
    simp only [MeshRefuses, answerMeshDiscard, hb]
    exact examine_lapsed hx hl
  · exact examineLong_lapsed hx hl
  · exact examineLong_lapsed hx hl
  · exact examineLong_lapsed hx hl

/-- Step 3 of R23, which MESH_COMMIT does not take. -/
theorem meshRefuses_pending (hc : k ≠ .meshCommit) (hx : Idx4.ofNat? (u8 body 0) = some h)
    (hl : (s.mesh.get h).lapse ≠ some p) (hp : (s.mesh.get h).commitPending = true) :
    MeshRefuses k p body s s .busy := by
  fin_cases hk
  · exact examineEdit_pending hx hl hp
  · exact absurd rfl hc
  · obtain ⟨b, hb⟩ := hf rfl
    simp only [MeshRefuses, answerMeshDiscard, hb]
    rw [examine_some hx hl, if_pos hp]
  · exact examineLong_pending hx hl hp
  · exact examineLong_pending hx hl hp
  · exact examineLong_pending hx hl hp

/-- Step 4 of R23, which a forced MESH_DISCARD does not take. -/
theorem meshRefuses_claimed {c : Claim} (hd : k = .meshDiscard → bool? (u8 body 1) = some false)
    (hx : Idx4.ofNat? (u8 body 0) = some h) (hl : (s.mesh.get h).lapse ≠ some p) (hc : (s.mesh.get h).claim = some c)
    (ho : c.owner ≠ p) : MeshRefuses k p body s s .busy := by
  have hother : (s.mesh.get h).claimedByOther p = true := by simp [HeadMesh.claimedByOther, hc, ho]
  fin_cases hk
  · exact examineEdit_claimed hx hl hother
  · simp only [MeshRefuses, answerMeshCommit]
    rw [examine_some hx hl]
    cases hp : (s.mesh.get h).commitPending <;> simp [hc, ho]
  · simp only [MeshRefuses, answerMeshDiscard, hd rfl]
    rw [examine_some hx hl]
    simp [hc, ho]
  · exact examineLong_claimed hx hl hother
  · exact examineLong_claimed hx hl hother
  · exact examineLong_claimed hx hl hother

end Refusals

/-- What the loss of a claim writes and raises (R25, R35). -/
theorem State.loseClaim_eq (h : Head) (o : Port) (s : State) : s.loseClaim h o =
    ({ s with mesh := s.mesh.set h <|
      { s.mesh.get h with staged := (s.mesh.get h).active, claim := none, lapse := some o } }).withNotices
        (BitVec.ofNat 19 (2 ^ (4 + h.toNat))) := by
  simp only [State.loseClaim, State.raise_eq, HeadMesh.revert, Notice.number]

/-! ## Holds -/

/-- A head port's claim with no commit pending is forced out. -/
theorem State.holdDiscard_ousts {h k : Head} {n : Nat} {s : State} (hc : (s.mesh.get h).claim = some ⟨.head k, n⟩)
    (hp : (s.mesh.get h).commitPending = false) : s.holdDiscard h = s.loseClaim h (.head k) := by
  simp only [State.holdDiscard, hc, hp]

/-- Nothing is forced out of a head where a commit is pending or no head port has the claim. -/
theorem State.holdDiscard_keeps {h : Head} {s : State}
    (hn : ¬ ((s.mesh.get h).commitPending = false ∧ ∃ k n, (s.mesh.get h).claim = some ⟨.head k, n⟩)) :
    s.holdDiscard h = s := by
  unfold State.holdDiscard
  split
  · rename_i hc hp
    exact absurd ⟨hp, _, _, hc⟩ hn
  · rfl

/-! ## Chunks that rewrite nodes -/

theorem runInside_iff (s : State) (start count : Nat) :
    runInside s start count = true ↔ 1 ≤ count ∧ start + count ≤ s.setup.nodes := by
  simp only [runInside, Bool.and_eq_true, decide_eq_true_eq]
  omega

theorem chunkStatus_eq {processed count clamped : Nat} : chunkStatus (count - processed) clamped =
    if processed < count then .partialDone else if clamped ≠ 0 then .adjusted else .done := by
  unfold chunkStatus
  exact if_congr (by omega) rfl rfl

theorem selectVisible_eq (sel : Nat) (kept : Bool) :
    selectVisible sel kept = if sel = 0 then false else if sel = 1 then true else kept := by
  unfold selectVisible
  split
  · rfl
  · rfl
  · rename_i h0 h1
    rw [if_neg h0, if_neg h1]

/-- The banks under a newly taken claim, after a chunk. -/
theorem State.claimed_chunk_work (s : State) (p : Port) (h k : Head) (count : Nat) (during : List Arrival) :
    let c := (s.setMesh h ((s.mesh.get h).takeClaim p)).chunk p count during
    (c.state.mesh.get k).staged = (s.mesh.get k).staged ∧ (c.state.mesh.get k).active = (s.mesh.get k).active := by
  have htake : s.SameWork (s.setMesh h ((s.mesh.get h).takeClaim p)) := by
    intro k
    simp only [State.setMesh, Quad.get_set]
    split
    · rename_i e
      subst e
      rw [HeadMesh.takeClaim_eq]
      split <;> exact ⟨rfl, rfl, rfl⟩
    · exact ⟨rfl, rfl, rfl⟩
  obtain ⟨hs, ha, -⟩ := (htake.trans (.chunk p count during _)) k
  exact ⟨hs, ha⟩

/-- What a chunk that rewrites nodes writes and answers. -/
theorem rewriteChunk_effect (p : Port) (h : Head) {start count : Nat} (f : Nat → Node → Node) (during : List Arrival)
    {s : State} (hcount : 1 ≤ count) (hrun : start + count ≤ (s.mesh.get h).staged.length) :
    let m := s.mesh.get h
    let c := (s.setMesh h (m.takeClaim p)).chunk p count during
    ∃ (bank : List Node) (clamped : Nat), bank.length = m.staged.length ∧
      (∀ i old, m.staged[i]? = some old → bank[i]? = some
        (if start ≤ i ∧ i < start + c.processed then (f i old).clamp else old)) ∧
      clamped = (List.range c.processed).countP (fun k =>
        let x := f (start + k) (m.staged.getD (start + k) ⟨0, 0, false⟩)
        decide (x.clamp ≠ x)) ∧
      rewriteChunk p h start count f during s = ⟨⟨c.state.setStaged h bank,
        if c.processed < count then .partialDone else if clamped ≠ 0 then .adjusted else .done,
        be1 h.toNat ++ be2 c.processed ++ be2 clamped ++ be2 (start + c.processed) ++ be2 (count - c.processed)⟩,
        c.rest⟩ := by
  intro m c
  have hstaged : (c.state.mesh.get h).staged = m.staged := (State.claimed_chunk_work s p h h count during).1
  have hle : c.processed ≤ count := (State.chunk_runs _ p during hcount).atMost.1
  have hrun : start + c.processed ≤ m.staged.length := le_trans (by omega) hrun
  have hchunk : rewriteChunk p h start count f during s = ⟨⟨c.state.setStaged h
      (rewriteRun f c.processed start m.staged).1, chunkStatus (count - c.processed)
        (rewriteRun f c.processed start m.staged).2, cursorBytes h c.processed
        (rewriteRun f c.processed start m.staged).2 (start + c.processed) (count - c.processed)⟩, c.rest⟩ := by
    rw [← hstaged]
    rfl
  refine ⟨_, _, rewriteRun_length .., fun i old ho => ?_, rewriteRun_count f c.processed start m.staged,
    hchunk.trans (by rw [chunkStatus_eq]; rfl)⟩
  rw [rewriteRun_get _ _ _ _ _ hrun, ho, Option.map_some]
  split <;> rfl

/-- What a chunk that copies nodes writes, place by place (R44). -/
theorem State.copied_get {s t : State} {h src : Head} {sel n from_ start : Nat} (hw : ∀ k,
    (t.mesh.get k).staged = (s.mesh.get k).staged ∧ (t.mesh.get k).active = (s.mesh.get k).active) (hsel : sel ≤ 1)
    (hto : start + n ≤ (s.mesh.get h).staged.length) (hs : from_ + n ≤ (s.mesh.get src).staged.length)
    (hl : from_ + n ≤ (s.mesh.get src).active.length) :
    (∀ i, i < start ∨ start + n ≤ i → (t.copied h src sel n from_ start)[i]? = (s.mesh.get h).staged[i]?) ∧
    ∀ k, k < n → (t.copied h src sel n from_ start)[start + k]? =
      (if sel = 1 then (s.mesh.get src).staged else (s.mesh.get src).active)[
        from_ + (if src = h ∧ sel = 1 ∧ from_ < start then k % (start - from_) else k)]? := by
  unfold State.copied
  by_cases hin : src = h ∧ sel = 1
  · obtain ⟨rfl, rfl⟩ := hin
    rw [if_pos ⟨rfl, rfl⟩, (hw src).1]
    refine ⟨fun i hi => copyWithin_outside _ _ _ _ _ hi, fun k hk => ?_⟩
    rw [copyWithin_inside _ _ _ _ hs hto k hk]
    simp
  · have hbank : ((t.mesh.get src).bank? sel).getD [] =
        if sel = 1 then (s.mesh.get src).staged else (s.mesh.get src).active := by
      rw [← (hw src).1, ← (hw src).2]
      interval_cases sel <;> rfl
    have hlen : from_ + n ≤ (if sel = 1 then (s.mesh.get src).staged else (s.mesh.get src).active).length := by
      split <;> assumption
    rw [if_neg hin, hbank, (hw h).1]
    refine ⟨fun i hi => ?_, fun k hk => ?_⟩
    · rw [copyRun_get _ _ _ _ _ _ hlen hto, if_neg (by omega)]
    · have hno : ¬ (src = h ∧ sel = 1 ∧ from_ < start) := fun e => hin ⟨e.1, e.2.1⟩
      rw [copyRun_get _ _ _ _ _ _ hlen hto, if_pos (by omega), if_neg hno, Nat.add_sub_cancel_left]

end Sys2Proof.Machine

/-! PROVES. The modifying mesh requests. -/

namespace Sys2Proof

open Sys2Proof.Machine

/-- Settles O36: steps 1 to 4 of R23 in their order. -/
theorem meshExamination : Obligations.MeshExamination := by
  refine ⟨fun k p tag body s hk hd hin => ⟨fun hp hhead => ?_, fun h hb he => ?_⟩, fun tag body s hin hbad => ?_⟩
  · subst hp
    refine exec_meshRefused hin rfl (meshRefuses_head hk (fun e => ?_) (Idx4.ofNat?_eq_none.2 hhead)) rfl
    exact ⟨_, bool?_of_le (by rcases hd e with h | h <;> omega)⟩
  · have hx : Idx4.ofNat? (u8 body 0) = some h := by rw [hb, Idx4.ofNat?_toNat]
    have ha : s.authorised k p body = true := State.authorised_edit hk hb
      (fun e hne => (hd e).resolve_right fun hf => hne hf.2) he
    have hf : k = .meshDiscard → ∃ b, bool? (u8 body 1) = some b := fun e =>
      ⟨_, bool?_of_le (by rcases hd e with h | h <;> omega)⟩
    refine ⟨fun hl => ?_, fun hl hc hp => ?_, fun c hl hc ho hz => ?_⟩
    · exact exec_meshRefused hin ha (meshRefuses_lapsed hk hf hx hl) rfl
    · exact exec_meshRefused hin ha (meshRefuses_pending hk hf hc hx hl hp) rfl
    · exact exec_meshRefused hin ha (meshRefuses_claimed hk hf (fun e => by rw [hz e]; rfl) hx hl hc ho) rfl
  · refine State.request_refused hin rfl ?_ rfl
    simp only [answerMeshDiscard, bool?_eq_none.2 hbad]

/-- Settles O37: past the examination, the run is checked and written. -/
theorem meshWrite : Obligations.MeshWrite := by
  intro p h start l tag s he hstart hl hlen body m passes hin hlapse hpend hclaim hbank
  have h0 : u8 body 0 = h.toNat := by
    simp only [body, List.append_assoc]
    exact u8_be1_idx ..
  have h1 : u16 body 1 = start := by
    simp only [fits2] at hstart
    simp [body, be1, be2, u16]
    omega
  have h3 : u8 body 3 = l.length := by
    simp [body, be1, be2]
    omega
  have h4 : nodesAt body 4 l.length = l := nodesAt_append (be1 h.toNat ++ be2 start ++ be1 l.length) l hl
  have hx : Idx4.ofNat? (u8 body 0) = some h := by rw [h0, Idx4.ofNat?_toNat]
  have ha : s.authorised .meshWrite p body = true :=
    State.authorised_edit (by simp) h0 (fun e => by cases e) he
  clear_value body
  have hrule : answerMeshWrite p body s = if passes then
      adjusted (s.setMesh h { m.takeClaim p with staged := writeRun m.staged start (l.map Node.clamp) })
        (decide (l.map Node.clamp ≠ l)) else refuse s .invalid := by
    have hstaged : (m.takeClaim p).staged = m.staged := by
      rw [HeadMesh.takeClaim_eq]
      split <;> rfl
    rw [answerMeshWrite, examineEdit_some hx hlapse hpend hclaim]
    simp only [h1, h3, h4, m, hstaged, passes]
  refine ⟨fun hno => State.request_refused hin ha (hrule.trans (if_neg hno)) rfl, fun hyes => ?_⟩
  have hrun : start + (l.map Node.clamp).length ≤ m.staged.length := by
    rw [List.length_map, hbank]
    exact hyes.2.2
  refine ⟨writeRun m.staged start (l.map Node.clamp), writeRun_length .., fun i => ?_, ?_⟩
  · rw [writeRun_get _ _ _ _ hrun, List.length_map, List.getElem?_map]
  · have hclamp : decide (l.map Node.clamp ≠ l) = false ↔ ∀ n ∈ l, n.clamp = n := by
      rw [decide_eq_false_iff_not, not_not]
      conv_lhs => rw [← List.map_id l, List.map_map, List.map_inj_left]
      rfl
    refine (State.request_carried hin ha ((hrule.trans (if_pos hyes)).trans (adjusted_eq _ _ hclamp)) hx ?_).trans ?_
    · split <;> rfl
    · simp only [State.touch, State.setMesh, Quad.get_set_same, Quad.set_set,
        HeadMesh.restartTimer_takeClaim _ hpend hclaim, m]

/-- Settles O38: the table of R29, and R32. -/
theorem meshCommit : Obligations.MeshCommit := by
  intro p h tag s he hin hlapse m
  have h0 : u8 (be1 h.toNat) 0 = h.toNat := u8_be1_idx h []
  have hx : Idx4.ofNat? (u8 (be1 h.toNat) 0) = some h := by rw [h0, Idx4.ofNat?_toNat]
  have ha : s.authorised .meshCommit p (be1 h.toNat) = true :=
    State.authorised_edit (by simp) h0 (fun e => by cases e) he
  have hpast : answerMeshCommit p (be1 h.toNat) s = _ := examine_some hx hlapse
  simp only [m]
  refine ⟨fun c hc ho hp hrun => ?_, fun c hc ho hp hr hs => ?_, fun c hc ho hp => ?_, fun hbusy => ?_, fun hc hp => ?_⟩
  · have hcommit : s.commit h = { s with mesh := s.mesh.set h { s.mesh.get h with commitPending := true } } := by
      have hcond : (s.running || s.saving) = true := by simpa using hrun
      simp only [State.commit, hcond, if_true]
    have hrule : answerMeshCommit p (be1 h.toNat) s = done (s.commit h) := hpast.trans (by simp [hc, hp, ho])
    exact State.request_untouched hin ha (hrule.trans (congrArg done hcommit)) hx (.inr (by simp))
  · have hm : ({ s.mesh.get h with active := (s.mesh.get h).staged, claim := none, commitPending := false } : HeadMesh) =
        { s.mesh.get h with active := (s.mesh.get h).staged, claim := none } := by simp [hp]
    have hcommit : s.commit h = ({ s with mesh := s.mesh.set h <|
        { s.mesh.get h with active := (s.mesh.get h).staged, claim := none } }).withNotices
          (BitVec.ofNat 19 (2 ^ h.toNat)) := by
      simp only [State.commit, hr, hs, Bool.or_self, Bool.false_eq_true, if_false, State.land, Quad.get_set_same,
        if_true, State.raise_eq, Quad.set_set, Notice.number, ← hm]
    have hrule : answerMeshCommit p (be1 h.toNat) s = done (s.commit h) := hpast.trans (by simp [hc, hp, ho])
    exact State.request_untouched hin ha (hrule.trans (congrArg done hcommit)) hx (.inl (by simp [State.withNotices]))
  · exact State.request_untouched hin ha (hpast.trans (by simp [hc, hp, ho])) hx (.inr hp)
  · refine State.request_refused hin ha (hpast.trans ?_) rfl
    rcases hbusy with ⟨hc, hp⟩ | ⟨c, hc, ho⟩
    · simp [hc, hp]
    · cases hp : (s.mesh.get h).commitPending <;> simp [hc, ho]
  · exact State.request_untouched hin ha (hpast.trans (by simp [hc, hp])) hx (.inl hc)

/-- Settles O39: by the claim and the force flag, and by the hold that stood. -/
theorem meshDiscardAndHold : Obligations.MeshDiscardAndHold := by
  refine ⟨fun tag body s hin hsave hbad => ?_, fun p h force tag s he hforce => ?_, fun h x tag s => ?_⟩
  · refine State.request_refused hin rfl ?_ rfl
    simp only [answerMeshHold, hsave, Bool.false_eq_true, if_false]
    rcases hbad with h | h
    · rw [Idx4.ofNat?_eq_none.2 h]
    · rw [bool?_eq_none.2 h]
      split
      · simp_all
      · rfl
  · intro body m hin hlapse hp
    have h0 : u8 body 0 = h.toNat := u8_be1_idx ..
    have h1 : bool? (u8 body 1) = some force := by cases force <;> rfl
    have hx : Idx4.ofNat? (u8 body 0) = some h := by rw [h0, Idx4.ofNat?_toNat]
    have ha : s.authorised .meshDiscard p body = true := by
      refine State.authorised_edit (by simp) h0 (fun _ hne => ?_) he
      cases force with
      | false => rfl
      | true => exact absurd (hforce rfl) hne
    clear_value body
    simp only [m] at *
    refine ⟨fun hc => ?_, fun c hc ho => ?_, fun c hc ho hz => ?_⟩
    · refine State.request_untouched hin ha ?_ hx (.inl hc)
      simp only [answerMeshDiscard, h1]
      rw [examine_some hx hlapse]
      simp [hp, hc]
    · refine State.request_untouched hin ha ?_ hx (.inl (by simp))
      simp only [answerMeshDiscard, h1]
      rw [examine_some hx hlapse]
      rw [if_neg (by simp [hp])]
      simp only [hc, ho, if_true]
      rfl
    · refine State.request_untouched hin ha ?_ hx (.inl (by simp [State.withNotices]))
      simp only [answerMeshDiscard, h1]
      rw [examine_some hx hlapse]
      simp only [hp, hc, ho, hz, Bool.false_eq_true, if_true, if_false, State.loseClaim_eq]
  · intro body m u ousts hin hsave
    have h0 : u8 body 0 = h.toNat := u8_be1_idx ..
    have h1 : bool? (u8 body 1) = some x := by cases x <;> rfl
    have hx : Idx4.ofNat? (u8 body 0) = some h := by rw [h0, Idx4.ofNat?_toNat]
    clear_value body
    have hrule : answerMeshHold .ap body s = done (if x && !(s.heads.get h).hold then u.holdDiscard h else u) := by
      simp only [answerMeshHold, hsave, hx, h1, Bool.false_eq_true, if_false, u]
    refine ⟨fun k n ho hc => ?_, fun hn => ?_⟩
    · obtain ⟨hset, hclear, hp⟩ := ho
      refine State.request_untouched hin rfl (hrule.trans ?_) hx (.inl (by simp [State.withNotices]))
      rw [hset, hclear, Bool.not_false, Bool.and_self, if_pos rfl, State.holdDiscard_ousts (s := u) hc hp, State.loseClaim_eq]
    · refine State.request_carried (st := .done) hin rfl (hrule.trans ?_) hx rfl
      by_cases hset : (x && !(s.heads.get h).hold) = true
      · have hcond : x = true ∧ (s.heads.get h).hold = false := by simpa using hset
        rw [if_pos hset, State.holdDiscard_keeps (s := u) fun ⟨hp, hc⟩ => hn ⟨⟨hcond.1, hcond.2, hp⟩, hc⟩]
        rfl
      · rw [if_neg hset]
        rfl

/-- Settles O40: the run and the selector are checked, then the chunk rewrites its nodes. -/
theorem meshGenerateAndShift : Obligations.MeshGenerateAndShift := by
  intro p h start count tag s he hstart hcount inside m columns claimed hlapse hpend hclaim
  have htake : s.setMesh h (m.takeClaim p) = claimed := by
    rw [HeadMesh.takeClaim_eq]
    rfl
  refine ⟨?_, ?_⟩
  · intro ou ov cu cv ru rv vis during hou hov hcu hcv hru hrv hvis body hin c place
    let g : Affine := ⟨ou, ov, cu, cv, ru, rv, vis⟩
    obtain ⟨h0, h1, h3, hg⟩ : u8 body 0 = h.toNat ∧ u16 body 1 = start ∧ u16 body 3 = count ∧
        (⟨s24 body 5, s24 body 8, s24 body 11, s24 body 14, s24 body 17, s24 body 20, u8 body 23⟩ : Affine) = g :=
      meshGenerate_fields (g := g) hstart hcount hou hov hcu hcv hru hrv hvis
    have hx : Idx4.ofNat? (u8 body 0) = some h := by rw [h0, Idx4.ofNat?_toNat]
    have ha : s.authorised .meshGenerate p body = true :=
      State.authorised_edit (by simp) h0 (fun e => by cases e) he
    clear_value body
    have hplace : ∀ i old, g.node columns i old = place i old := fun i old => by
      simp only [Affine.node, place, g, selectVisible_eq]
    have hrule : answerMeshGenerate during p body s = if runInside s start count && decide (vis ≤ 2) then
        rewriteChunk p h start count (g.node columns) during s else longRefuse (refuse s .invalid) during := by
      rw [answerMeshGenerate, examineLong_some hx hlapse hpend hclaim]
      have hselector : u8 body 23 = vis := congrArg Affine.visible hg
      simp only [h1, h3, hg]
      rw [hselector]
    refine ⟨fun hno => ?_, fun hrun hv hbank => ?_⟩
    · refine State.requestLong_refused hin ha (hrule.trans (if_neg fun hc => hno ?_)) rfl
      rw [Bool.and_eq_true, runInside_iff, decide_eq_true_eq] at hc
      exact hc
    · obtain ⟨bank, clamped, hlen, hget, hcount', heff⟩ := rewriteChunk_effect p h (g.node columns) during hrun.1
        (hbank ▸ hrun.2)
      simp only [hplace] at hget hcount'
      rw [htake] at hget hcount' heff
      refine ⟨bank, clamped, hlen, hget, hcount', State.requestLong_carried hin ha ((hrule.trans (if_pos ?_)).trans heff)
        hx ?_⟩
      · rw [Bool.and_eq_true, runInside_iff, decide_eq_true_eq]
        exact ⟨hrun, hv⟩
      · split
        · rfl
        · split <;> rfl
  · intro du dv during hdu hdv body hin c moved
    obtain ⟨h0, h1, h3, h5, h8⟩ : u8 body 0 = h.toNat ∧ u16 body 1 = start ∧ u16 body 3 = count ∧ s24 body 5 = du ∧
        s24 body 8 = dv := meshShift_fields hstart hcount hdu hdv
    have hx : Idx4.ofNat? (u8 body 0) = some h := by rw [h0, Idx4.ofNat?_toNat]
    have ha : s.authorised .meshShift p body = true :=
      State.authorised_edit (by simp) h0 (fun e => by cases e) he
    clear_value body
    have hrule : answerMeshShift during p body s = if runInside s start count then
        rewriteChunk p h start count (fun _ => moved) during s else longRefuse (refuse s .invalid) during := by
      rw [answerMeshShift, examineLong_some hx hlapse hpend hclaim]
      simp only [h1, h3, h5, h8]
      rfl
    refine ⟨fun hno => ?_, fun hrun hbank => ?_⟩
    · exact State.requestLong_refused hin ha (hrule.trans (if_neg fun hc => hno ((runInside_iff ..).1 hc))) rfl
    · obtain ⟨bank, clamped, hlen, hget, hcount', heff⟩ := rewriteChunk_effect p h (fun _ => moved) during hrun.1
        (hbank ▸ hrun.2)
      rw [htake] at hget hcount' heff
      refine ⟨bank, clamped, hlen, hget, hcount', State.requestLong_carried hin ha
        ((hrule.trans (if_pos ((runInside_iff ..).2 hrun))).trans heff) hx ?_⟩
      split
      · rfl
      · split <;> rfl

/-- Settles O41: the copy place by place, forward inside one bank by its period. -/
theorem meshCopy : Obligations.MeshCopy := by
  intro p h source sel start from_ count tag during s he hsource hsel hstart hfrom hcount fits m body hin hlapse hpend
    hclaim
  obtain ⟨h0, h1, h3, h5, h6, h7⟩ : u8 body 0 = h.toNat ∧ u16 body 1 = start ∧ u16 body 3 = count ∧
      u8 body 5 = source ∧ u8 body 6 = sel ∧ u16 body 7 = from_ := meshCopy_fields hstart hcount hsource hsel hfrom
  have hx : Idx4.ofNat? (u8 body 0) = some h := by rw [h0, Idx4.ofNat?_toNat]
  have ha : s.authorised .meshCopy p body = true := State.authorised_edit (by simp) h0 (fun e => by cases e) he
  clear_value body
  refine ⟨fun hno => ?_, ?_⟩
  · refine State.requestLong_refused hin ha ?_ rfl
    rw [answerMeshCopy, examineLong_some hx hlapse hpend hclaim]
    simp only [h1, h3, h5, h6, h7]
    split
    · rfl
    · rename_i src hsrc
      rw [if_neg]
      simp only [Bool.and_eq_true, runInside_iff, decide_eq_true_eq]
      rintro ⟨⟨⟨hc, hto⟩, hs⟩, -, hfr⟩
      exact hno ⟨hc, hto, Idx4.ofNat?_le hsrc, hs, hfr⟩
  · intro src hfits hsrc hbanks claimed c bank overlaps
    obtain ⟨hc, hto, -, hs, hfr⟩ := hfits
    have htake : s.setMesh h (m.takeClaim p) = claimed := by
      rw [HeadMesh.takeClaim_eq]
      rfl
    have hle : c.processed ≤ count := (State.chunk_runs claimed p during hc).atMost.1
    have hwork := fun k => State.claimed_chunk_work s p h k count during
    rw [htake] at hwork
    obtain ⟨hlenA, hlenS, -, -⟩ := hbanks src
    obtain ⟨houtside, hinside⟩ := State.copied_get (h := h) (src := src) (from_ := from_) (start := start)
      (n := c.processed) hwork hs (by rw [(hbanks h).2.1]; omega) (by omega) (by omega)
    refine ⟨c.state.copied h src sel c.processed from_ start, ?_, houtside, hinside,
      State.requestLong_carried hin ha ?_ hx ?_⟩
    · rw [State.copied_length, (hwork h).1]
    · have hcond : (runInside s start count && decide (sel ≤ 1) && runInside s from_ count) = true := by
        simp only [Bool.and_eq_true, runInside_iff, decide_eq_true_eq]
        exact ⟨⟨⟨hc, hto⟩, hs⟩, hc, hfr⟩
      have hstatus : chunkStatus (count - c.processed) 0 = if c.processed < count then .partialDone else .done := by
        rw [chunkStatus_eq, if_neg (c := (0 : Nat) ≠ 0) (by simp)]
      rw [answerMeshCopy, examineLong_some hx hlapse hpend hclaim, ← hstatus]
      simp only [h1, h3, h5, h6, h7, hsrc, Idx4.ofNat?_toNat, hcond, if_true, htake, m]
      rfl
    · split <;> rfl

end Sys2Proof

/-! SUPPORT. What every operation leaves of the banks of a head whose commit is pending and stays so. -/

namespace Sys2Proof.Machine

/-- A commit pending after an operation was pending before it, over the same banks. -/
def Stays (s t : State) : Prop := ∀ h, (t.mesh.get h).commitPending = true →
  (s.mesh.get h).commitPending = true ∧ (t.mesh.get h).staged = (s.mesh.get h).staged ∧
    (t.mesh.get h).active = (s.mesh.get h).active

/-! ## The shared operations -/

theorem Stays.trans {s t u : State} (h : Stays s t) (h' : Stays t u) : Stays s u := fun k hk => by
  obtain ⟨hp, hs, ha⟩ := h' k hk
  obtain ⟨hp', hs', ha'⟩ := h k hp
  exact ⟨hp', hs.trans hs', ha.trans ha'⟩

theorem Stays.of_work {s t : State} (h : s.SameWork t) : Stays s t := fun k hk => by
  obtain ⟨hs, ha, hp⟩ := h k
  exact ⟨hp ▸ hk, hs, ha⟩

theorem Stays.of_mesh {s t : State} (h : t.mesh = s.mesh) : Stays s t := .of_work (.of_mesh h)

theorem Stays.refl (s : State) : Stays s s := .of_mesh rfl

theorem Stays.of_none {s t : State} (h : ∀ k, (t.mesh.get k).commitPending = false) : Stays s t := fun k hk => by
  rw [h k] at hk
  cases hk

/-- The mesh state of one head is written, with no commit pending or with the same work. -/
theorem Stays.set {s t : State} {h : Head} {m : HeadMesh} (ht : t.mesh = s.mesh.set h m)
    (hm : m.commitPending = true → (s.mesh.get h).commitPending = true ∧ m.staged = (s.mesh.get h).staged ∧
      m.active = (s.mesh.get h).active) : Stays s t := fun k hk => by
  rw [ht, Quad.get_set] at hk ⊢
  split at hk
  · rename_i e
    subst e
    rw [if_pos rfl]
    exact hm hk
  · rename_i e
    rw [if_neg e]
    exact ⟨hk, rfl, rfl⟩

theorem Stays.elapseTo (l t : Nat) (s : State) : Stays s (s.elapseTo l t) := .of_work fun k => by
  simp only [State.elapseTo, State.elapse_mesh, Quad.get_map, HeadMesh.elapse]
  split <;> exact ⟨rfl, rfl, rfl⟩

theorem Stays.loseClaim {h : Head} (o : Port) {s : State} (hp : (s.mesh.get h).commitPending = false) :
    Stays s (s.loseClaim h o) :=
  .set (by rw [State.loseClaim_eq]; rfl) fun hk => by
    rw [hp] at hk
    cases hk

/-- A landing leaves no commit pending where it acts. -/
theorem Stays.landAll (s : State) : Stays s s.landAll := fun k => by
  rw [State.landAll_get]
  split
  · exact nofun
  · exact fun hk => ⟨hk, rfl, rfl⟩

theorem Stays.outputFrameStart (s : State) : Stays s s.outputFrameStart := fun k => by
  rw [State.outputFrameStart_mesh]
  exact Stays.landAll s k

theorem Stays.stopOutput (s : State) : Stays s s.stopOutput := fun k => by
  rw [State.stopOutput_mesh]
  exact Stays.landAll s k

theorem Stays.frameEvent (x : Pacing) (s : State) : Stays s (s.frameEvent x) := by
  unfold State.frameEvent
  split
  · exact .refl s
  · exact .stopOutput s
  · exact (Stays.of_mesh rfl).trans (.outputFrameStart _)

theorem Stays.startOutput (s : State) : Stays s s.startOutput := by
  unfold State.startOutput
  split
  · exact (Stays.of_mesh rfl).trans (.outputFrameStart _)
  · split
    · exact .of_mesh rfl
    · exact (Stays.of_mesh rfl).trans (.outputFrameStart _)

theorem Stays.ownEvent (s : State) : Stays s s.ownEvent := by
  unfold State.ownEvent
  split
  · exact (Stays.elapseTo _ _ s).trans (.frameEvent _ _)
  · exact (Stays.elapseTo _ _ s).trans (.frameEvent _ _)
  · exact (Stays.elapseTo _ _ s).trans (.frameEvent _ _)
  · exact .refl s

/-! ## The cold start and a save -/

theorem Stays.endColdStart (code : Byte) (x : StoredState) (s : State) : Stays s (s.endColdStart code x) := by
  unfold State.endColdStart State.autoStart
  split
  · exact (Stays.of_mesh rfl).trans (.startOutput _)
  · exact .of_mesh rfl

/-- An image applied leaves no commit pending. -/
theorem State.applyImage_pending (m : Image) (s : State) (h : Head) :
    ((s.applyImage m).mesh.get h).commitPending = false := by
  have hseam : ∀ sl (u : State), (u.applySeam m sl).mesh = u.mesh := fun sl u => by
    unfold State.applySeam
    split <;> simp
  simp only [State.applyImage, forEach, hseam]
  simp [State.applyStores]

theorem Stays.checkBody (check : BitVec 16) (body : List Byte) (s : State) : Stays s (s.checkBody check body) := by
  unfold State.checkBody
  split
  · split
    · exact (Stays.of_none (State.applyImage_pending _ s)).trans (.endColdStart _ _ _)
    · exact .endColdStart _ _ s
  · exact .endColdStart _ _ s

theorem Stays.endSave (x : SaveState) (s : State) : Stays s (s.endSave x) := by
  unfold State.endSave
  dsimp only
  split
  · exact .of_mesh rfl
  · exact (Stays.of_mesh (by simp)).trans (.landAll _)

theorem Stays.endVerify (s : State) (l : List Byte) : Stays s (s.endVerify l) := by
  unfold State.endVerify
  split
  · exact (Stays.of_mesh rfl).trans (.endSave .ok _)
  · exact .endSave .failedVerify s

/-! ## The source link -/

theorem Stays.paceStep (l : Bool) (s : State) : Stays s (s.paceStep l) := by
  unfold State.paceStep
  split
  · split
    · exact .frameEvent _ s
    · exact .refl s
  · split
    · exact .frameEvent _ s
    · exact .refl s
  · exact .refl s
  · exact .refl s

theorem State.cutRun_mesh (s : State) : s.cutRun.mesh = s.mesh := by
  unfold State.cutRun
  split <;> rfl

theorem State.fillStep_mesh (w : Nat) (s : State) : (s.fillStep w).mesh = s.mesh := by
  simp [State.fillStep, State.cutRun_mesh]

theorem State.acquire_mesh (s : State) : s.acquire.mesh = s.mesh := by
  unfold State.acquire
  split <;> simp

theorem Stays.sourceStart (o : FrameOpening) (n : Nat) (b : Bool) (s : State) : Stays s (s.sourceStart o n b) := by
  have hnote : ((s.measure n).noteStart o.bits).mesh = s.mesh := by
    unfold State.measure State.noteStart
    split <;> rfl
  unfold State.sourceStart
  dsimp only
  split
  · exact (Stays.trans (.of_mesh hnote) (.paceStep _ _)).trans
      (.of_mesh (by rw [State.acquire_mesh, State.fillStep_mesh]))
  · exact Stays.trans (.of_mesh (by rw [State.acquire_mesh, State.fillStep_mesh, hnote])) (.paceStep _ _)

theorem State.completeFrame_mesh (z : Size) (f : SourceFrame) (s : State) : (s.completeFrame z f).mesh = s.mesh := by
  unfold State.completeFrame
  split
  · split <;> simp [State.frameReady, State.frameLetGo, State.setCandidate]
  · split <;> simp [State.frameReady, State.frameLetGo, State.setCandidate]
  all_goals simp [State.frameLetGo, State.setCandidate]

theorem State.outOfRangeFrame_mesh (z : Size) (s : State) : (s.outOfRangeFrame z).mesh = s.mesh := by
  unfold State.outOfRangeFrame
  dsimp only
  split <;> simp [State.frameLetGo]

theorem State.loseInput_mesh (s : State) : s.loseInput.mesh = s.mesh := by
  unfold State.loseInput
  split
  · dsimp only
    split <;> simp
  · simp
  · simp
  all_goals rfl

/-! ## Requests -/

/-- Whatever stands pending before and after, over the same banks. -/
def Locks (s t : State) : Prop := s.landingsLawful → ∀ h, (s.mesh.get h).commitPending = true →
  (t.mesh.get h).commitPending = true →
  (t.mesh.get h).staged = (s.mesh.get h).staged ∧ (t.mesh.get h).active = (s.mesh.get h).active

theorem Stays.locks {s t : State} (h : Stays s t) : Locks s t := fun _ k _ hk => (h k hk).2

/-- The same work before and after an operation. -/
theorem Locks.between {s t u v : State} (h : Locks t u) (hl : s.landingsLawful → t.landingsLawful)
    (hs : s.SameWork t) (hu : u.SameWork v) : Locks s v := fun hlaw k hk hk' => by
  obtain ⟨hts, hta, htp⟩ := hs k
  obtain ⟨hvs, hva, hvp⟩ := hu k
  obtain ⟨hus, hua⟩ := h (hl hlaw) k (htp.trans hk) (hvp ▸ hk')
  exact ⟨hvs.trans (hus.trans hts), hva.trans (hua.trans hta)⟩

theorem State.SameWork.answered (p : Port) (r : Reply) (s : State) : s.SameWork (s.answered p r) :=
  .of_mesh (by simp)

theorem Keeps.comeIn (p : Port) (tag : Byte) (k : Kind) (body : List Byte) (s : State) :
    Keeps s (s.comeIn p tag k body) := by
  unfold State.comeIn
  split
  · exact (Keeps.setAssembler ..).trans (.packetArrives ..)
  · exact .refl s

theorem State.SameWork.finish (k : Kind) (e : Entry) (a : Answer) : a.state.SameWork (State.finish k e a) := by
  unfold State.finish
  split
  · exact (State.SameWork.touch _ _ _).trans (State.SameWork.answered _ _ _)
  · exact State.SameWork.answered _ _ _

theorem Locks.request {k : Kind} {f : Port → List Byte → State → Answer} {p : Port} {tag : Byte} {body : List Byte}
    {s t : State} (hf : ∀ u, Locks u (f p body u).state) (h : s.request k f p tag body = .next t) : Locks s t := by
  have carry : ∀ u : State, Locks u (u.carryOut k f ⟨p, tag, k.code, body⟩) := fun u => by
    unfold State.carryOut State.answerTo
    split
    · exact (hf u).between id (.refl u) (.finish _ _ _)
    · exact (Stays.of_work (.finish k _ (refuse u .denied))).locks
  rcases State.request_cases k f p tag body s with ⟨u, hu, -, e⟩ | e <;> rw [e] at h <;> cases h
  · rcases hu with rfl | rfl
    · exact carry _
    · exact (carry _).between (Keeps.comeIn ..).landings (.comeIn _ _ _ _ _) (.refl _)
  · exact (Stays.of_work (.comeIn _ _ _ _ _)).locks

theorem Locks.requestLong {k : Kind} {f : List Arrival → Port → List Byte → State → LongAnswer} {p : Port} {tag : Byte}
    {body : List Byte} {during : List Arrival} {s t : State} (hf : ∀ u, Locks u (f during p body u).answer.state)
    (h : s.requestLong k f p tag body during = .next t) : Locks s t := by
  have carry : ∀ u : State, Locks u (u.carryOutLong k f during ⟨p, tag, k.code, body⟩) := fun u => by
    unfold State.carryOutLong
    dsimp only
    split
    · exact (hf u).between id (.refl u) ((State.SameWork.finish _ _ _).trans (.receiveAll _ _))
    · exact (Stays.of_work ((State.SameWork.finish k _ (refuse u .denied)).trans (.receiveAll _ _))).locks
  rcases State.requestLong_cases k f p tag body during s with ⟨u, hu, -, e⟩ | e <;> rw [e] at h <;> cases h
  · rcases hu with rfl | rfl
    · exact carry _
    · exact (carry _).between (Keeps.comeIn ..).landings (.comeIn _ _ _ _ _) (.refl _)
  · exact (Stays.of_work ((State.SameWork.comeIn _ _ _ _ _).trans (.receiveAll _ _))).locks

end Sys2Proof.Machine

/-! SUPPORT. What the rule of every request leaves of the banks of a head whose commit is pending and stays so. -/

namespace Sys2Proof.Machine

/-! ## Rules that leave the meshes -/

section Meshes

variable (p : Port) (body : List Byte) (s : State)

theorem answerOutputStop_mesh : (answerOutputStop p body s).state.mesh = s.mesh := by
  unfold answerOutputStop
  split <;> rfl

theorem answerHeadSetup_mesh : (answerHeadSetup p body s).state.mesh = s.mesh := by
  unfold answerHeadSetup
  split
  · rfl
  split
  · dsimp only
    split
    · rfl
    · split <;> simp [refuse, done]
  · rfl

theorem answerHeadMode_mesh : (answerHeadMode p body s).state.mesh = s.mesh := by
  unfold answerHeadMode
  split <;> rfl

theorem answerSeamDefine_mesh : (answerSeamDefine p body s).state.mesh = s.mesh := by
  unfold answerSeamDefine
  split
  · rfl
  split
  · split
    · rfl
    · split <;> rfl
  · rfl

theorem answerSeamDelete_mesh : (answerSeamDelete p body s).state.mesh = s.mesh := by
  unfold answerSeamDelete
  split
  · rfl
  · split <;> rfl

theorem answerSeamPin_mesh : (answerSeamPin p body s).state.mesh = s.mesh := by
  unfold answerSeamPin
  split
  · rfl
  split
  · split <;> simp [refuse, done]
  · rfl

theorem answerSeamFades_mesh : (answerSeamFades p body s).state.mesh = s.mesh := by
  unfold answerSeamFades
  split
  · rfl
  split
  · rfl
  · split <;> rfl

theorem answerCurveWrite_mesh : (answerCurveWrite p body s).state.mesh = s.mesh := by
  unfold answerCurveWrite
  split
  · rfl
  · dsimp only
    split <;> rfl

theorem answerHeadState_mesh : (answerHeadState p body s).state.mesh = s.mesh := by
  unfold answerHeadState
  split
  · dsimp only
    split <;> simp
  · rfl

theorem answerPresenceSetup_mesh : (answerPresenceSetup p body s).state.mesh = s.mesh := by
  unfold answerPresenceSetup
  split
  · rfl
  split
  · dsimp only
    split <;> simp
  · rfl

theorem answerTableWrite_mesh : (answerTableWrite p body s).state.mesh = s.mesh := by
  unfold answerTableWrite
  dsimp only
  split <;> rfl

theorem answerTableCommit_mesh : (answerTableCommit p body s).state.mesh = s.mesh := by
  unfold answerTableCommit
  dsimp only
  split
  · rfl
  split
  · rfl
  · split <;> rfl

theorem answerLiftSet_mesh : (answerLiftSet p body s).state.mesh = s.mesh := by
  unfold answerLiftSet
  split
  · rfl
  · split <;> rfl

theorem answerSourceQuery_mesh : (answerSourceQuery p body s).state.mesh = s.mesh := by
  unfold answerSourceQuery
  split <;> rfl

theorem answerNoticeMask_mesh : (answerNoticeMask p body s).state.mesh = s.mesh := by
  unfold answerNoticeMask
  split <;> rfl

theorem answerHoldSetup_mesh : (answerHoldSetup p body s).state.mesh = s.mesh := by
  unfold answerHoldSetup
  split <;> rfl

theorem answerSave_mesh : (answerSave p body s).state.mesh = s.mesh := by
  unfold answerSave
  split <;> rfl

/-! ## Rules that write them -/

theorem Locks.answerOutputStart : Locks s (answerOutputStart p body s).state := by
  unfold Machine.answerOutputStart
  split
  · exact (Stays.startOutput s).locks
  · exact (Stays.of_mesh rfl).locks

theorem Locks.answerRestart : Locks s (answerRestart p body s).state := by
  refine (Stays.of_none fun k => ?_).locks
  have hmesh : s.warmRestart.mesh = s.abortQueue.mesh.map HeadMesh.restart := by
    have habort : ∀ u : State, u.abortSave.mesh = u.mesh := fun u => by
      unfold State.abortSave
      split <;> rfl
    exact (show s.warmRestart.mesh = _ from rfl).trans (habort _)
  simp only [Machine.answerRestart, done, hmesh, Quad.get_map]
  rfl

/-- The flat meshes of OUTPUT_SETUP come only while STOPPED with no save, where the laws let no commit be pending
(R11, R33). -/
theorem Locks.answerOutputSetup : Locks s (answerOutputSetup p body s).state := by
  intro hlaw k hk
  by_cases hv : s.saving = true
  · simp [Machine.answerOutputSetup, hv, refuse]
  by_cases hr : s.running = true
  · simp [Machine.answerOutputSetup, hr, refuse]
  have hnone := hlaw (by simpa using hr) (by simpa using hv) k
  rw [hnone] at hk
  cases hk

/-- The examination of a request that may write leaves the banks, or goes on to its rule on one head. -/
theorem Stays.clearLapse (h : Head) (s : State) : Stays s (s.clearLapse h) :=
  .set rfl fun hk => ⟨hk, rfl, rfl⟩

theorem Stays.examineEdit {p : Port} {index : Nat} {s : State} {rule : Head → Answer}
    (hr : ∀ h, (s.mesh.get h).commitPending = false → Stays s (rule h).state) :
    Stays s (examineEdit p index s rule).state := by
  unfold Machine.examineEdit
  rcases examine_state p index s _ with e | ⟨k, e⟩ | ⟨k, -, e⟩ <;> rw [e]
  · exact .refl s
  · exact .clearLapse k s
  · split
    · exact .refl s
    · rename_i hp
      split
      · exact .refl s
      · exact hr k (by simpa using hp)

theorem Stays.examineLong {p : Port} {index : Nat} {during : List Arrival} {s : State} {rule : Head → LongAnswer}
    (hr : ∀ h, (s.mesh.get h).commitPending = false → Stays s (rule h).answer.state) :
    Stays s (examineLong p index during s rule).answer.state := by
  unfold Machine.examineLong
  split
  · exact .refl s
  split
  · exact .clearLapse _ s
  split
  · exact .refl s
  split
  · exact .refl s
  · exact hr _ (by simpa using ‹¬ (_ : Bool) = true›)

theorem HeadMesh.takeClaim_pending (p : Port) (m : HeadMesh) :
    (m.takeClaim p).commitPending = m.commitPending := by
  rw [HeadMesh.takeClaim_eq]
  split <;> rfl

/-- A head's state is written where no commit is pending on it. -/
theorem Stays.set_clear {s t : State} {h : Head} {m : HeadMesh} (ht : t.mesh = s.mesh.set h m)
    (hm : m.commitPending = false) : Stays s t :=
  .set ht fun hk => by
    rw [hm] at hk
    cases hk

theorem Stays.answerMeshWrite : Stays s (answerMeshWrite p body s).state := by
  refine .examineEdit fun h hp => ?_
  dsimp only
  split
  · exact .set_clear rfl ((HeadMesh.takeClaim_pending p _).trans hp)
  · exact .refl s

/-- The claim, a chunk, and the bank it writes. -/
theorem Stays.chunk {h : Head} (hp : (s.mesh.get h).commitPending = false) (count : Nat) (during : List Arrival)
    (bank : List Node) :
    Stays s (((s.setMesh h ((s.mesh.get h).takeClaim p)).chunk p count during).state.setStaged h bank) := by
  have htake : Stays s (s.setMesh h ((s.mesh.get h).takeClaim p)) :=
    .set_clear rfl ((HeadMesh.takeClaim_pending p _).trans hp)
  have hchunk := htake.trans (.of_work (.chunk p count during _))
  refine hchunk.trans (.set_clear rfl ?_)
  by_contra hc
  obtain ⟨hs, -⟩ := hchunk h (by simpa using hc)
  rw [hp] at hs
  cases hs

theorem Stays.answerMeshGenerate (during : List Arrival) : Stays s (answerMeshGenerate during p body s).answer.state := by
  refine .examineLong fun h hp => ?_
  dsimp only
  split
  · exact .chunk p s hp _ _ _
  · exact .refl s

theorem Stays.answerMeshShift (during : List Arrival) : Stays s (answerMeshShift during p body s).answer.state := by
  refine .examineLong fun h hp => ?_
  dsimp only
  split
  · exact .chunk p s hp _ _ _
  · exact .refl s

theorem Stays.answerMeshCopy (during : List Arrival) : Stays s (answerMeshCopy during p body s).answer.state := by
  refine .examineLong fun h hp => ?_
  dsimp only
  split
  · exact .refl s
  split
  · exact .chunk p s hp _ _ _
  · exact .refl s

theorem Stays.answerMeshDiscard : Stays s (answerMeshDiscard p body s).state := by
  unfold Machine.answerMeshDiscard
  split
  · exact .refl s
  rcases examine_state p (u8 body 0) s _ with e | ⟨k, e⟩ | ⟨k, -, e⟩ <;> rw [e]
  · exact .refl s
  · exact .clearLapse k s
  split
  · exact .refl s
  have hp : (s.mesh.get k).commitPending = false := by simpa using ‹¬ (_ : Bool) = true›
  split
  · exact .refl s
  split
  · exact .set_clear rfl hp
  split
  · exact .loseClaim _ hp
  · exact .refl s

theorem Stays.answerMeshHold : Stays s (answerMeshHold p body s).state := by
  unfold Machine.answerMeshHold
  split
  · exact .refl s
  split
  · rename_i h x _ _
    show Stays s (if _ then _ else _)
    split
    · unfold State.holdDiscard
      split
      · rename_i hp
        exact Stays.trans (.of_mesh rfl) (.loseClaim _ hp)
      · exact .of_mesh rfl
    · exact .of_mesh rfl
  · exact .refl s

/-- A commit keeps the banks of the head where one is pending, and leaves the other heads. -/
theorem Locks.commit (h : Head) : Locks s (s.commit h) := by
  intro _ k hk hk'
  rw [State.commit_get] at hk' ⊢
  split at hk'
  · rename_i e
    subst e
    split at hk'
    · simp [*]
    · cases hk'
  · rename_i e
    rw [if_neg e]
    exact ⟨rfl, rfl⟩

theorem Locks.answerMeshCommit : Locks s (answerMeshCommit p body s).state := by
  unfold Machine.answerMeshCommit
  rcases examine_state p (u8 body 0) s _ with e | ⟨k, e⟩ | ⟨k, -, e⟩ <;> rw [e]
  · exact (Stays.refl s).locks
  · exact (Stays.clearLapse k s).locks
  split
  · split
    · exact .commit s k
    · exact (Stays.refl s).locks
  · split <;> exact (Stays.refl s).locks
  · exact (Stays.refl s).locks
  · exact (Stays.refl s).locks

/-- The Mesh Store's step on one used head leaves the other heads. -/
theorem State.layMesh_other {h k : Head} (hk : k ≠ h) : (s.layMesh h).mesh.get k = s.mesh.get k := by
  unfold State.layMesh
  dsimp only
  rw [State.commit_get, if_neg hk, Quad.get_set_ne _ _ hk]

/-- The Mesh Store's step of an apply leaves the heads the preset does not use (R158). -/
theorem State.layMeshes_unused {q : Preset} {k : Head} (hk : q.place? k = none) :
    (s.layMeshes q).mesh.get k = s.mesh.get k := by
  refine forEach_keeps (fun u => u.mesh.get k) _ (fun h u => ?_) s
  split
  · rename_i hu
    refine State.layMesh_other u fun e => ?_
    rw [← e, hk] at hu
    cases hu
  · rfl

theorem State.laySeams_mesh (q : Preset) (o : Nat) : (s.laySeams q o).mesh = s.mesh := by
  unfold State.laySeams
  induction q.seams generalizing s with
  | nil => rfl
  | cons x l ih => exact (ih _).trans (by simp)

theorem State.layHeads_mesh (q : Preset) (o : Nat) : (s.layHeads q o).mesh = s.mesh :=
  (forEach_keeps (fun u => u.mesh) _ (fun h u => by simp) _).trans rfl

/-- LAYOUT_APPLY is BUSY where a commit is pending on a head it uses (R155). -/
theorem Locks.answerLayoutApply : Locks s (answerLayoutApply p body s).state := by
  unfold Machine.answerLayoutApply
  split
  · exact (Stays.refl s).locks
  split
  · exact (Stays.refl s).locks
  split
  · exact (Stays.refl s).locks
  rename_i q _ hfree
  intro _ k hk _
  have hunused : q.place? k = none := by
    by_contra hne
    obtain ⟨x, hx⟩ := Option.ne_none_iff_exists'.1 hne
    obtain ⟨hmem, rfl⟩ := Preset.place?_mem hx
    exact hfree (List.any_eq_true.2 ⟨x, hmem, by simp [HeadMesh.blocksLayout, hk]⟩)
  simp only [State.layMeshes_unused _ hunused, State.laySeams_mesh, State.layHeads_mesh, and_self]

end Meshes

/-! ## Events -/

theorem Stays.execFlashIdentifyAnswered {ident : List Byte} {s t : State}
    (h : execFlashIdentifyAnswered ident s = .next t) : Stays s t := by
  unfold Machine.execFlashIdentifyAnswered at h
  split at h
  · split at h <;> cases h <;> exact .of_mesh rfl
  all_goals cases h; exact .refl s

theorem Stays.execHeaderReadAnswered {read : FlashAnswer} {s t : State}
    (h : execHeaderReadAnswered read s = .next t) : Stays s t := by
  unfold Machine.execHeaderReadAnswered at h
  split at h
  · dsimp only at h
    split at h
    · cases h; exact .refl s
    split at h
    · cases h; exact .endColdStart _ _ s
    split at h
    · cases h; exact .endColdStart _ _ s
    split at h
    · cases h; exact .checkBody _ _ s
    · cases h; exact .of_mesh rfl
  all_goals cases h; exact .refl s

theorem Stays.execBodyReadAnswered {read : FlashAnswer} {s t : State}
    (h : execBodyReadAnswered read s = .next t) : Stays s t := by
  unfold Machine.execBodyReadAnswered at h
  split at h
  · dsimp only at h
    split at h
    · cases h; exact .refl s
    split at h
    · cases h; exact .of_mesh rfl
    · cases h; exact .checkBody _ _ s
  all_goals cases h; exact .refl s

theorem Stays.execStartupFlashTimeout {s t : State} (h : execStartupFlashTimeout s = .next t) : Stays s t := by
  unfold Machine.execStartupFlashTimeout at h
  split at h <;> cases h
  · exact (Stays.elapseTo _ _ s).trans (.endColdStart _ _ _)
  · exact .refl s

theorem Stays.execFramePeriodExpiry {s t : State} (h : execFramePeriodExpiry s = .next t) : Stays s t := by
  unfold Machine.execFramePeriodExpiry at h
  split at h <;> cases h
  · exact (Stays.elapseTo _ _ s).trans (.frameEvent _ _)
  · exact (Stays.elapseTo _ _ s).trans (.frameEvent _ _)
  · exact .refl s
  · exact .refl s

theorem Stays.execFollowTimeout {s t : State} (h : execFollowTimeout s = .next t) : Stays s t := by
  unfold Machine.execFollowTimeout at h
  split at h <;> cases h
  · exact (Stays.elapseTo _ _ s).trans (.frameEvent _ _)
  · exact .refl s
  · exact .refl s
  · exact .refl s

theorem Stays.execFadeSettle {sl : Slot} {s t : State} (h : execFadeSettle sl s = .next t) : Stays s t := by
  unfold Machine.execFadeSettle at h
  split at h
  · split at h <;> cases h
    · exact .ownEvent s
    · exact .refl s
  · cases h; exact .refl s

theorem Stays.execHoldTimeExpiry {s t : State} (h : execHoldTimeExpiry s = .next t) : Stays s t := by
  unfold Machine.execHoldTimeExpiry at h
  split at h <;> cases h
  · exact .ownEvent s
  · exact .refl s

theorem Stays.execSourceFrameStart {o : FrameOpening} {n : Nat} {b : Bool} {s t : State}
    (h : execSourceFrameStart o n b s = .next t) : Stays s t := by
  unfold Machine.execSourceFrameStart at h
  split at h <;> cases h
  · exact (Stays.elapseTo _ _ s).trans (.sourceStart _ _ _ _)
  · exact .sourceStart _ _ _ s

theorem Stays.execSourceFrameEnd {lines : List (List Rgb)} {s t : State}
    (h : execSourceFrameEnd lines s = .next t) : Stays s t := by
  unfold Machine.execSourceFrameEnd at h
  split at h
  · split at h <;> cases h
    · exact .of_mesh (State.completeFrame_mesh _ _ s)
    · exact .of_mesh (State.outOfRangeFrame_mesh _ s)
    · exact .of_mesh (by simp [State.cutRun_mesh])
  · cases h; exact .refl s

theorem State.cutFrame_mesh (s : State) : s.cutFrame.mesh = s.mesh := by simp

theorem State.settleSink_mesh (h : Head) (s : State) : (s.settleSink h).mesh = s.mesh := by simp [State.settleSink]

theorem State.setPresence_mesh (h : Head) (x : Presence) (s : State) : (s.setPresence h x).mesh = s.mesh := by simp

theorem Stays.execSourceLoss {s t : State} (h : execSourceLoss s = .next t) : Stays s t := by
  unfold Machine.execSourceLoss at h
  split at h <;> cases h
  · exact .refl s
  · exact (Stays.elapseTo _ _ s).trans (.of_mesh ((State.loseInput_mesh _).trans (State.cutFrame_mesh _)))

theorem Stays.execSinkDebounceExpiry {h : Head} {s t : State} (hx : execSinkDebounceExpiry h s = .next t) :
    Stays s t := by
  unfold Machine.execSinkDebounceExpiry at hx
  split at hx <;> cases hx
  · exact .refl s
  · exact (Stays.elapseTo _ _ s).trans (.of_mesh (State.settleSink_mesh _ _))

theorem Stays.execPresenceExpiry {h : Head} {s t : State} (hx : execPresenceExpiry h s = .next t) : Stays s t := by
  unfold Machine.execPresenceExpiry at hx
  split at hx <;> cases hx
  · exact (Stays.elapseTo _ _ s).trans (.of_mesh (State.setPresence_mesh _ _ _))
  · exact .refl s

theorem Stays.execClaimLapse {h : Head} {s t : State} (hx : execClaimLapse h s = .next t) : Stays s t := by
  unfold Machine.execClaimLapse at hx
  split at hx <;> cases hx
  · rename_i hp
    refine (Stays.elapseTo _ _ s).trans (.loseClaim _ ?_)
    simp [State.elapseTo, HeadMesh.elapse, hp]
  · exact .refl s

theorem Stays.execReceiveGapTimeout {p : Port} {s t : State} (h : execReceiveGapTimeout p s = .next t) : Stays s t := by
  unfold Machine.execReceiveGapTimeout at h
  split at h <;> cases h
  · exact .refl s
  · exact (Stays.elapseTo _ _ s).trans (.of_mesh rfl)

theorem Stays.execLenOversize {p : Port} {len : Byte} {s t : State} (h : execLenOversize p len s = .next t) :
    Stays s t := by
  unfold Machine.execLenOversize at h
  split at h <;> cases h
  · exact .of_mesh rfl
  · exact .refl s

theorem Stays.execReplySent {p : Port} {s t : State} (h : execReplySent p s = .next t) : Stays s t := by
  unfold Machine.execReplySent at h
  split at h <;> cases h
  · exact .refl s
  · exact .of_mesh (by simp)

theorem State.opEnds_mesh (s : State) : s.opEnds.mesh = s.mesh := by
  unfold State.opEnds
  split <;> rfl

theorem Stays.execSaveEraseDone {s t : State} (h : execSaveEraseDone s = .next t) : Stays s t := by
  unfold Machine.execSaveEraseDone at h
  split at h
  · split at h <;> cases h <;> exact .of_mesh rfl
  · cases h; exact .refl s

theorem Stays.execSavePageProgrammed {s t : State} (h : execSavePageProgrammed s = .next t) : Stays s t := by
  unfold Machine.execSavePageProgrammed at h
  split at h
  · split at h <;> cases h <;> exact .of_mesh (State.opEnds_mesh s)
  · cases h; exact .refl s

theorem Stays.execSaveHeaderProgrammed {s t : State} (h : execSaveHeaderProgrammed s = .next t) : Stays s t := by
  unfold Machine.execSaveHeaderProgrammed at h
  split at h <;> cases h
  · exact .of_mesh (State.opEnds_mesh s)
  · exact .refl s

theorem Stays.execSaveVerifyRead {read : FlashAnswer} {s t : State} (h : execSaveVerifyRead read s = .next t) :
    Stays s t := by
  unfold Machine.execSaveVerifyRead at h
  split at h
  · dsimp only at h
    split at h
    · cases h; exact .refl s
    split at h
    · cases h; exact .endSave .failedVerify s
    split at h
    · cases h; exact .of_mesh rfl
    · cases h; exact .endVerify s _
  · cases h; exact .refl s

theorem Stays.execSaveFlashTimeout {s t : State} (h : execSaveFlashTimeout s = .next t) : Stays s t := by
  unfold Machine.execSaveFlashTimeout at h
  split at h <;> cases h
  · exact (Stays.elapseTo _ _ s).trans (.endSave .failedTimeout _)
  · exact .refl s

theorem Stays.execAbortedFlashOperationEnd {s t : State} (h : execAbortedFlashOperationEnd s = .next t) :
    Stays s t := by
  unfold Machine.execAbortedFlashOperationEnd at h
  split at h <;> cases h
  · exact .refl s
  · exact .of_mesh rfl

/-! ## Every command -/

/-- Whatever the command: a commit pending before and after it stands over the same banks. -/
theorem exec_locks {c : Instr} {s t : State} (h : exec c s = .next t) : Locks s t := by
  have same : ∀ {k : Kind} {f : Port → List Byte → State → Answer} {p tag body},
      (∀ u, (f p body u).state.mesh = u.mesh) → s.request k f p tag body = .next t → Locks s t :=
    fun hf => Locks.request fun u => (Stays.of_mesh (hf u)).locks
  have kept : ∀ {k : Kind} {f : Port → List Byte → State → Answer} {p tag body},
      (∀ u, (f p body u).state = u) → s.request k f p tag body = .next t → Locks s t :=
    fun hf => same fun u => congrArg State.mesh (hf u)
  cases c with
  | coldReset straps =>
    cases h
    exact (Stays.of_none fun k => by rw [State.cold_mesh]; rfl).locks
  | flashIdentifyAnswered ident => exact (Stays.execFlashIdentifyAnswered h).locks
  | headerReadAnswered read => exact (Stays.execHeaderReadAnswered h).locks
  | bodyReadAnswered read => exact (Stays.execBodyReadAnswered h).locks
  | startupFlashTimeout => exact (Stays.execStartupFlashTimeout h).locks
  | framePeriodExpiry => exact (Stays.execFramePeriodExpiry h).locks
  | followTimeout => exact (Stays.execFollowTimeout h).locks
  | fadeSettle slot => exact (Stays.execFadeSettle h).locks
  | holdTimeExpiry => exact (Stays.execHoldTimeExpiry h).locks
  | sourceFrameStart o n b => exact (Stays.execSourceFrameStart h).locks
  | sourceFrameEnd lines => exact (Stays.execSourceFrameEnd h).locks
  | sourceLoss => exact (Stays.execSourceLoss h).locks
  | detectLineChange k level => cases h; exact (Stays.of_mesh rfl).locks
  | sinkDebounceExpiry k => exact (Stays.execSinkDebounceExpiry h).locks
  | presenceExpiry k => exact (Stays.execPresenceExpiry h).locks
  | claimLapse k => exact (Stays.execClaimLapse h).locks
  | packetReceived p bytes => cases h; exact (Stays.of_work (.receiveAll [⟨0, p, bytes⟩] s)).locks
  | receiveGapTimeout p => exact (Stays.execReceiveGapTimeout h).locks
  | brokenByte p => cases h; exact (Stays.of_mesh rfl).locks
  | lenOversize p len => exact (Stays.execLenOversize h).locks
  | replySent p => exact (Stays.execReplySent h).locks
  | status p tag body => exact kept (answerStatus_state p body) h
  | noticeRead p tag body => exact same (fun u => rfl) h
  | noticeMask p tag body => exact same (answerNoticeMask_mesh p body) h
  | restart p tag body => exact .request (.answerRestart p body) h
  | outputSetup p tag body => exact .request (.answerOutputSetup p body) h
  | outputStart p tag body => exact .request (.answerOutputStart p body) h
  | outputStop p tag body => exact same (answerOutputStop_mesh p body) h
  | headSetup p tag body => exact same (answerHeadSetup_mesh p body) h
  | headQuery p tag body => exact kept (answerHeadQuery_state p body) h
  | headMode p tag body => exact same (answerHeadMode_mesh p body) h
  | meshWrite p tag body => exact .request (fun u => (Stays.answerMeshWrite p body u).locks) h
  | meshRead p tag body => exact kept (answerMeshRead_state p body) h
  | meshCommit p tag body => exact .request (.answerMeshCommit p body) h
  | meshDiscard p tag body => exact .request (fun u => (Stays.answerMeshDiscard p body u).locks) h
  | meshHold p tag body => exact .request (fun u => (Stays.answerMeshHold p body u).locks) h
  | meshQuery p tag body => exact kept (answerMeshQuery_state p body) h
  | meshGenerate p tag body during =>
    exact .requestLong (fun u => (Stays.answerMeshGenerate p body u during).locks) h
  | meshShift p tag body during => exact .requestLong (fun u => (Stays.answerMeshShift p body u during).locks) h
  | meshCopy p tag body during => exact .requestLong (fun u => (Stays.answerMeshCopy p body u during).locks) h
  | seamDefine p tag body => exact same (answerSeamDefine_mesh p body) h
  | seamDelete p tag body => exact same (answerSeamDelete_mesh p body) h
  | seamQuery p tag body => exact kept (answerSeamQuery_state p body) h
  | seamPin p tag body => exact same (answerSeamPin_mesh p body) h
  | seamFades p tag body => exact same (answerSeamFades_mesh p body) h
  | curveWrite p tag body => exact same (answerCurveWrite_mesh p body) h
  | curveRead p tag body => exact kept (answerCurveRead_state p body) h
  | headState p tag body => exact same (answerHeadState_mesh p body) h
  | presenceSetup p tag body => exact same (answerPresenceSetup_mesh p body) h
  | tableWrite p tag body => exact same (answerTableWrite_mesh p body) h
  | tableRead p tag body => exact kept (answerTableRead_state p body) h
  | tableCommit p tag body => exact same (answerTableCommit_mesh p body) h
  | liftSet p tag body => exact same (answerLiftSet_mesh p body) h
  | sourceQuery p tag body => exact same (answerSourceQuery_mesh p body) h
  | holdSetup p tag body => exact same (answerHoldSetup_mesh p body) h
  | layoutRead p tag body => exact kept (answerLayoutRead_state p body) h
  | layoutApply p tag body => exact .request (.answerLayoutApply p body) h
  | save p tag body => exact same (answerSave_mesh p body) h
  | saveEraseDone => exact (Stays.execSaveEraseDone h).locks
  | savePageProgrammed => exact (Stays.execSavePageProgrammed h).locks
  | saveHeaderProgrammed => exact (Stays.execSaveHeaderProgrammed h).locks
  | saveVerifyRead read => exact (Stays.execSaveVerifyRead h).locks
  | saveFlashTimeout => exact (Stays.execSaveFlashTimeout h).locks
  | abortedFlashOperationEnd => exact (Stays.execAbortedFlashOperationEnd h).locks

end Sys2Proof.Machine

/-! PROVES. While a commit stays pending its banks do not change. -/

namespace Sys2Proof

open Sys2Proof.Machine

/-- Settles O43: command by command; the landings' law is what OUTPUT_SETUP needs. -/
theorem commitLocksStaged : Obligations.CommitLocksStaged := fun _ _ _ h he hlaw hs ht =>
  exec_locks he hlaw h hs ht

end Sys2Proof

/-! SUPPORT. What a request on a head port leaves: the other heads, the seams' definitions and the settings of the whole
part (R22, R166, R171). -/

namespace Sys2Proof.Machine

/-- The mesh state of a head with the time of its claim left out. -/
def HeadMesh.work (m : HeadMesh) : List Node × List Node × Bool × Option Port × Option Port :=
  (m.active, m.staged, m.commitPending, m.lapse, m.claim.map Claim.owner)

/-- A seam's definition: its geometry, its pin and its fade lengths. -/
def Seam.definition (q : Seam) : SeamGeometry × Pin × Nat × Nat := (q.geo, q.pin, q.nOut, q.nIn)

/-- The settings of the whole part that no head port changes. -/
def State.settings (s : State) : OutputSetup × Timing × Curves × Tables × Tables × StoredState × SaveState ×
    List Byte × SourceInput :=
  (s.setup, s.timing, s.curves, s.live, s.staged, s.stored, s.save, s.image, s.source)

/-- An operation touches nothing but head j's own record, monitor and meshes, and the looks of seams. -/
structure Apart (j : Head) (s t : State) : Prop where
  settings : t.settings = s.settings := by rfl
  periods : ∀ h, (t.heads.get h).period = (s.heads.get h).period := by exact fun _ => rfl
  heads : ∀ h, h ≠ j → t.heads.get h = s.heads.get h := by exact fun _ _ => rfl
  monitors : ∀ h, h ≠ j → t.monitor.get h = s.monitor.get h := by exact fun _ _ => rfl
  meshes : ∀ h, h ≠ j → (t.mesh.get h).work = (s.mesh.get h).work := by exact fun _ _ => rfl
  seams : ∀ sl, (t.seams.get sl).map Seam.definition = (s.seams.get sl).map Seam.definition := by exact fun _ => rfl

variable {j : Head} {s t u : State}

theorem Apart.refl (j : Head) (s : State) : Apart j s s := {}

theorem Apart.trans (h : Apart j s t) (h' : Apart j t u) : Apart j s u where
  settings := h'.settings.trans h.settings
  periods k := (h'.periods k).trans (h.periods k)
  heads k hk := (h'.heads k hk).trans (h.heads k hk)
  monitors k hk := (h'.monitors k hk).trans (h.monitors k hk)
  meshes k hk := (h'.meshes k hk).trans (h.meshes k hk)
  seams sl := (h'.seams sl).trans (h.seams sl)

/-- The fields that Apart speaks of. -/
def State.parts (s : State) :=
  (s.settings, s.heads, s.monitor, s.mesh, s.seams)

theorem Apart.of_parts (h : t.parts = s.parts) : Apart j s t := by
  simp only [State.parts, Prod.mk.injEq] at h
  obtain ⟨hset, hheads, hmon, hmesh, hseams⟩ := h
  exact ⟨hset, fun _ => by rw [hheads], fun _ _ => by rw [hheads], fun _ _ => by rw [hmon], fun _ _ => by rw [hmesh],
    fun _ => by rw [hseams]⟩

/-! ## The shared operations -/

theorem HeadMesh.restartTimer_same (p : Port) (m : HeadMesh) : (m.restartTimer p).work = m.work := by
  rw [HeadMesh.restartTimer_eq]
  split
  · rename_i h
    simp [HeadMesh.work, h.1]
  · rfl

theorem Apart.touch (h : Option Head) (p : Port) (s : State) : Apart j s (s.touch h p) := by
  cases h with
  | none => exact .refl j s
  | some h =>
    refine { meshes := fun k _ => ?_ }
    simp only [State.touch, Quad.get_set]
    split
    · rename_i e
      exact e ▸ HeadMesh.restartTimer_same p _
    · rfl

theorem Apart.answered (p : Port) (r : Reply) (s : State) : Apart j s (s.answered p r) :=
  .of_parts (by simp [State.parts, State.settings])

theorem Apart.finish (k : Kind) (e : Entry) (a : Answer) : Apart j a.state (State.finish k e a) := by
  unfold State.finish
  split
  · exact (Apart.touch _ _ _).trans (.answered _ _ _)
  · exact .answered _ _ _

theorem Seam.startFade_definition (q : Seam) (m : SeamMode) : (q.startFade m).1.definition = q.definition := by
  unfold Seam.startFade
  split <;> rfl

theorem Seam.retarget_definition (q : Seam) (running : Bool) (m : SeamMode) :
    (q.retarget running m).1.definition = q.definition := by
  unfold Seam.retarget
  split
  · rfl
  split
  · rfl
  split
  · exact Seam.startFade_definition q m
  · split
    · split <;> rfl
    · exact Seam.startFade_definition _ m

/-- A re-derivation writes its own head's contribution and the looks of seams (R94). -/
theorem Apart.rederive (j : Head) (s : State) : Apart j s (s.rederive j) where
  settings := by simp [State.settings]
  periods := by simp
  heads := by simp
  meshes := by simp
  monitors k hk := by rw [State.rederive_monitor, Quad.get_set_ne _ _ hk]
  seams sl := by
    obtain ⟨f, hf, hget⟩ := State.rederive_seams j s
    rw [hget, Option.map_map]
    congr 1
    funext q
    rcases hf q with e | ⟨m, e⟩
    · exact congrArg Seam.definition e
    · exact (congrArg Seam.definition e).trans (Seam.retarget_definition q _ m)

theorem Apart.setMonitor (m : Monitor) (s : State) : Apart j s { s with monitor := s.monitor.set j m } :=
  { monitors := fun _ hk => Quad.get_set_ne _ _ hk }

/-- A head's own mesh state is written. -/
theorem Apart.setMesh (ht : t.mesh = s.mesh.set j m) (hp : { t with mesh := s.mesh }.parts = s.parts) :
    Apart j s t := by
  simp only [State.parts, Prod.mk.injEq] at hp
  obtain ⟨hset, hheads, hmon, -, hseams⟩ := hp
  exact ⟨hset, fun _ => by rw [hheads], fun _ _ => by rw [hheads], fun _ _ => by rw [hmon],
    fun k hk => by rw [ht, Quad.get_set_ne _ _ hk], fun _ => by rw [hseams]⟩

theorem Apart.hear (j : Head) (s : State) : Apart j s (s.hear j) := by
  unfold State.hear
  split
  · exact .refl j s
  · exact .setMonitor _ s
  · exact (Apart.setMonitor _ s).trans (.rederive j _)
  · exact (Apart.setMonitor _ s).trans (.rederive j _)

/-- A packet on a head port acts on that head's presence and on the timers of claims (R85, R165). -/
theorem Apart.packetArrives (tag kind : Byte) (body : List Byte) (s : State) :
    Apart j s (s.packetArrives (.head j) tag kind body) := by
  have hheard : Apart j s (s.heard (.head j)) :=
    Apart.trans { meshes := fun k _ => by rw [State.restartClaims_mesh, Quad.get_map, HeadMesh.restartTimer_same] }
      (.hear j (s.restartClaims (.head j)))
  rw [State.packetArrives_eq]
  refine hheard.trans ?_
  split
  · exact .of_parts (by simp [State.parts, State.settings])
  split
  · exact .of_parts (by simp [State.parts, State.settings])
  split
  · exact .of_parts (by simp [State.parts, State.settings])
  · split <;> exact .of_parts (by simp [State.parts, State.settings])

theorem Apart.comeIn (tag : Byte) (k : Kind) (body : List Byte) (s : State) :
    Apart j s (s.comeIn (.head j) tag k body) := by
  unfold State.comeIn
  split
  · exact Apart.trans (t := s.setAssembler (.head j) .hunt) (.of_parts rfl) (.packetArrives _ _ _ _)
  · exact .refl j s

/-! ## Requests -/

theorem Apart.request {k : Kind} {f : Port → List Byte → State → Answer} {tag : Byte} {body : List Byte}
    (hf : ∀ u : State, u.authorised k (.head j) body = true → Apart j u (f (.head j) body u).state)
    (h : s.request k f (.head j) tag body = .next t) : Apart j s t := by
  have carry : ∀ u : State, Apart j u (u.carryOut k f ⟨.head j, tag, k.code, body⟩) := fun u => by
    unfold State.carryOut State.answerTo
    split
    · exact (hf u ‹_›).trans (.finish _ _ _)
    · exact .finish k _ (refuse u .denied)
  rcases State.request_cases k f (.head j) tag body s with ⟨u, hu, -, e⟩ | e <;> rw [e] at h <;> cases h
  · rcases hu with rfl | rfl
    · exact carry _
    · exact (Apart.comeIn _ _ _ s).trans (carry _)
  · exact .comeIn _ _ _ s

theorem Apart.requestLong {k : Kind} {f : List Arrival → Port → List Byte → State → LongAnswer} {tag : Byte}
    {body : List Byte} (hf : ∀ u : State, u.authorised k (.head j) body = true →
      Apart j u (f [] (.head j) body u).answer.state ∧ (f [] (.head j) body u).rest = [])
    (h : s.requestLong k f (.head j) tag body [] = .next t) : Apart j s t := by
  have carry : ∀ u : State, Apart j u (u.carryOutLong k f [] ⟨.head j, tag, k.code, body⟩) := fun u => by
    unfold State.carryOutLong
    dsimp only
    split
    · obtain ⟨ha, hr⟩ := hf u ‹_›
      rw [hr]
      exact ha.trans (.finish _ _ _)
    · exact .finish k _ (refuse u .denied)
  rcases State.requestLong_cases k f (.head j) tag body [] s with ⟨u, hu, -, e⟩ | e <;> rw [e] at h <;> cases h
  · rcases hu with rfl | rfl
    · exact carry _
    · exact (Apart.comeIn _ _ _ s).trans (carry _)
  · exact .comeIn _ _ _ s

/-- A mesh request of a head port that has authority names that port's head (R166). -/
theorem authorised_names {k : Kind} {body : List Byte}
    (hk : k ∈ [Kind.headMode, .headState, .meshWrite, .meshCommit, .meshDiscard, .meshGenerate, .meshShift, .meshCopy])
    (ha : s.authorised k (.head j) body = true) : Idx4.ofNat? (u8 body 0) = some j := by
  fin_cases hk <;> simp only [State.authorised, kindHead?, Bool.and_eq_true, decide_eq_true_eq] at ha
  · exact of_decide_eq_true ha
  · exact of_decide_eq_true ha
  · exact of_decide_eq_true ha.1
  · exact of_decide_eq_true ha.1
  · exact of_decide_eq_true ha.1.1
  · exact of_decide_eq_true ha.1
  · exact of_decide_eq_true ha.1
  · exact of_decide_eq_true ha.1

section Rules

variable {p : Port} {index : Nat} {body : List Byte} (hx : Idx4.ofNat? index = some j)
include hx

theorem Apart.examine {rule : Head → Answer} (hr : Apart j s (rule j).state) :
    Apart j s (examine p index s rule).state := by
  rcases examine_state p index s rule with e | ⟨k, e⟩ | ⟨k, hk, e⟩
  · rw [e]
    exact .refl j s
  · by_cases hl : (s.mesh.get j).lapse = some p
    · rw [examine_lapsed hx hl]
      exact .setMesh rfl rfl
    · rw [examine_some hx hl]
      exact hr
  · rw [e, Option.some.inj (hk.symm.trans hx)]
    exact hr

theorem Apart.examineLong {rule : Head → LongAnswer} (hr : Apart j s (rule j).answer.state ∧ (rule j).rest = []) :
    Apart j s (examineLong p index [] s rule).answer.state ∧ (examineLong p index [] s rule).rest = [] := by
  unfold Machine.examineLong
  simp only [hx]
  split
  · exact ⟨.setMesh rfl rfl, rfl⟩
  split
  · exact ⟨.refl j s, rfl⟩
  split
  · exact ⟨.refl j s, rfl⟩
  · exact hr

end Rules

/-- A chunk in which nothing arrives. -/
theorem State.chunk_alone (s : State) (p : Port) {count : Nat} (h : 1 ≤ count) :
    (s.chunk p count []).state = s ∧ (s.chunk p count []).rest = [] := by
  obtain ⟨due, hdue, hstate⟩ := (State.chunk_runs s p [] h).received
  obtain ⟨rfl, hrest⟩ := List.append_eq_nil_iff.1 hdue.symm
  exact ⟨hstate, hrest⟩

/-- The claim, the chunk and the bank it writes, with nothing arriving. -/
theorem Apart.chunk (p : Port) {count : Nat} (hc : 1 ≤ count) (bank : List Node) (s : State) :
    let c := (s.setMesh j ((s.mesh.get j).takeClaim p)).chunk p count []
    Apart j s (c.state.setStaged j bank) ∧ c.rest = [] := by
  obtain ⟨hstate, hrest⟩ := State.chunk_alone (s.setMesh j ((s.mesh.get j).takeClaim p)) p hc
  refine ⟨?_, hrest⟩
  rw [hstate]
  exact .setMesh (Quad.set_set _ _ _ _) rfl

section Kinds

variable {body : List Byte}

theorem Apart.answerHeadMode (hx : Idx4.ofNat? (u8 body 0) = some j) (p : Port) :
    Apart j s (answerHeadMode p body s).state := by
  unfold Machine.answerHeadMode
  rw [hx]
  split
  · rename_i h m c hh hm
    cases hh
    refine { periods := fun k => ?_, heads := fun k hk => Quad.get_set_ne _ _ hk }
    simp only [adjusted, State.setHead_heads, Quad.get_set]
    split
    · rename_i e
      rw [e]
    · rfl
  · exact .refl j s

theorem Apart.answerHeadState (hx : Idx4.ofNat? (u8 body 0) = some j) (p : Port) :
    Apart j s (answerHeadState p body s).state := by
  unfold Machine.answerHeadState
  rw [hx]
  split
  · rename_i h l hh hl
    cases hh
    dsimp only
    split
    · exact .refl j s
    · exact (Apart.setMonitor _ s).trans (.rederive j _)
  · exact .refl j s

theorem Apart.answerMeshWrite (hx : Idx4.ofNat? (u8 body 0) = some j) (p : Port) :
    Apart j s (answerMeshWrite p body s).state := by
  refine .examine hx ?_
  split
  · exact .refl j s
  split
  · exact .refl j s
  dsimp only
  split
  · exact .setMesh rfl rfl
  · exact .refl j s

theorem Apart.answerMeshCommit (hx : Idx4.ofNat? (u8 body 0) = some j) (p : Port) :
    Apart j s (answerMeshCommit p body s).state := by
  have hcommit : Apart j s (s.commit j) := by
    refine ⟨?_, ?_, ?_, ?_, fun k hk => ?_, ?_⟩ <;> try simp [State.settings]
    rw [State.commit_get, if_neg hk]
  refine .examine hx ?_
  split
  · split
    · exact hcommit
    · exact .refl j s
  · split <;> exact .refl j s
  · exact .refl j s
  · exact .refl j s

theorem Apart.answerMeshDiscard (hx : Idx4.ofNat? (u8 body 0) = some j) (p : Port) :
    Apart j s (answerMeshDiscard p body s).state := by
  unfold Machine.answerMeshDiscard
  split
  · exact .refl j s
  refine .examine hx ?_
  split
  · exact .refl j s
  split
  · exact .refl j s
  split
  · exact .setMesh rfl rfl
  split
  · exact .setMesh (by rw [State.loseClaim_eq]; rfl) rfl
  · exact .refl j s

theorem Apart.answerMeshGenerate (hx : Idx4.ofNat? (u8 body 0) = some j) (p : Port) :
    Apart j s (answerMeshGenerate [] p body s).answer.state ∧ (answerMeshGenerate [] p body s).rest = [] := by
  refine Apart.examineLong hx ?_
  dsimp only
  split
  · rename_i hc
    rw [Bool.and_eq_true, runInside_iff] at hc
    exact Apart.chunk p hc.1.1 _ s
  · exact ⟨.refl j s, rfl⟩

theorem Apart.answerMeshShift (hx : Idx4.ofNat? (u8 body 0) = some j) (p : Port) :
    Apart j s (answerMeshShift [] p body s).answer.state ∧ (answerMeshShift [] p body s).rest = [] := by
  refine Apart.examineLong hx ?_
  dsimp only
  split
  · rename_i hc
    rw [runInside_iff] at hc
    exact Apart.chunk p hc.1 _ s
  · exact ⟨.refl j s, rfl⟩

theorem Apart.answerMeshCopy (hx : Idx4.ofNat? (u8 body 0) = some j) (p : Port) :
    Apart j s (answerMeshCopy [] p body s).answer.state ∧ (answerMeshCopy [] p body s).rest = [] := by
  refine Apart.examineLong hx ?_
  dsimp only
  split
  · exact ⟨.refl j s, rfl⟩
  split
  · rename_i hc
    rw [Bool.and_eq_true, Bool.and_eq_true, runInside_iff] at hc
    exact Apart.chunk p hc.1.1.1 _ s
  · exact ⟨.refl j s, rfl⟩

end Kinds

/-- Every request on a head port, by its kind: it has no authority, it reports, or it acts on its own head. -/
theorem exec_apart {k : Kind} {tag : Byte} {body : List Byte} (h : exec (k.command (.head j) tag body) s = .next t) :
    Apart j s t := by
  have kept : ∀ {k : Kind} {f : Port → List Byte → State → Answer},
      (∀ p body u, (f p body u).state = u) → s.request k f (.head j) tag body = .next t → Apart j s t :=
    fun hf => .request fun u _ => by rw [hf]; exact .refl j u
  cases k with
  | status => exact kept answerStatus_state h
  | noticeRead => exact .request (fun u _ => .of_parts rfl) h
  | noticeMask =>
    refine .request (fun u _ => ?_) h
    unfold answerNoticeMask
    split <;> exact .of_parts rfl
  | headQuery => exact kept answerHeadQuery_state h
  | headMode => exact .request (fun u ha => .answerHeadMode (authorised_names (by simp) ha) _) h
  | meshWrite => exact .request (fun u ha => .answerMeshWrite (authorised_names (by simp) ha) _) h
  | meshRead => exact kept answerMeshRead_state h
  | meshCommit => exact .request (fun u ha => .answerMeshCommit (authorised_names (by simp) ha) _) h
  | meshDiscard => exact .request (fun u ha => .answerMeshDiscard (authorised_names (by simp) ha) _) h
  | meshQuery => exact kept answerMeshQuery_state h
  | meshGenerate => exact .requestLong (fun u ha => Apart.answerMeshGenerate (authorised_names (by simp) ha) _) h
  | meshShift => exact .requestLong (fun u ha => Apart.answerMeshShift (authorised_names (by simp) ha) _) h
  | meshCopy => exact .requestLong (fun u ha => Apart.answerMeshCopy (authorised_names (by simp) ha) _) h
  | seamQuery => exact kept answerSeamQuery_state h
  | curveRead => exact kept answerCurveRead_state h
  | headState => exact .request (fun u ha => .answerHeadState (authorised_names (by simp) ha) _) h
  | tableRead => exact kept answerTableRead_state h
  | layoutRead => exact kept answerLayoutRead_state h
  | sourceQuery =>
    refine .request (fun u ha => ?_) h
    have hzero : u8 body 0 = 0 := by simpa [State.authorised] using ha
    rw [answerSourceQuery, hzero]
    exact .refl j u
  | _ =>
    refine .request (fun _ ha => ?_) h
    exact absurd ha Bool.false_ne_true

end Sys2Proof.Machine

/-! PROVES. A head port acts on its own head alone. -/

namespace Sys2Proof

open Sys2Proof.Machine

/-- Settles O12: kind by kind, and for the packet that brings the request. -/
theorem headPortIsolation : Obligations.HeadPortIsolation := by
  intro k j tag body s t h
  obtain ⟨hset, hperiod, hheads, hmon, hmesh, hseams⟩ := exec_apart h
  simp only [State.settings, Prod.mk.injEq] at hset
  obtain ⟨h1, h2, h3, h4, h5, h6, h7, h8, h9⟩ := hset
  refine ⟨h1, h2, h3, h4, h5, h6, h7, h8, h9, hperiod, fun i hi => ⟨hheads i hi, hmon i hi, ?_⟩, hseams⟩
  have hwork := hmesh i hi
  simp only [HeadMesh.work, Prod.mk.injEq] at hwork
  exact hwork

end Sys2Proof

/-! SUPPORT. Runs of table entries, a port's attention line, and what a warm restart does port by port. -/

namespace Sys2Proof.Machine

/-! ## Tables -/

theorem Tables.table_write_same {sel : Nat} (hs : sel ≤ 4) (t : Tables) (l : List Nat) :
    (t.write sel l).table sel = l := by
  rw [Tables.table_write hs, if_pos rfl]

theorem tableRunOk_iff {start count : Nat} :
    tableRunOk start count = true ↔ 1 ≤ count ∧ count ≤ 64 ∧ start + count ≤ 257 := by
  rw [tableRunOk, decide_eq_true_eq]

/-- The fields of TABLE_WRITE read back. -/
theorem tableWrite_fields {sel start : Nat} {l : List Nat} (hsel : sel < 256) (hs : fits2 start)
    (hl : l.length < 119) (hf : ∀ x ∈ l, fits2 x) :
    let body := be1 sel ++ be2 start ++ be1 l.length ++ l.flatMap be2
    u8 body 0 = sel ∧ u16 body 1 = start ∧ u8 body 3 = l.length ∧ entriesAt body 4 l.length = l :=
  ⟨u8_behind [] (be2 start ++ (be1 l.length ++ l.flatMap be2)) hsel,
    u16_behind (be1 sel) (be1 l.length ++ l.flatMap be2) hs,
    u8_behind (be1 sel ++ be2 start) (l.flatMap be2) (by omega),
    entriesAt_append (be1 sel ++ be2 start ++ be1 l.length) l hf⟩

/-! ## Attention lines -/

/-- Two notice sets share a kind exactly where their intersection is not empty (R173). -/
theorem PortState.attention_iff (q : PortState) : q.attention = true ↔
    ∃ k, k < 19 ∧ q.notices.getLsbD k = true ∧ q.mask.getLsbD k = true := by
  rw [PortState.attention, bne_iff_ne, ne_eq, BitVec.eq_of_getLsbD_eq_iff]
  push Not
  refine exists_congr fun k => and_congr_right fun hk => ?_
  simp [BitVec.getLsbD_and]

/-- An answer leaves every port's notice set and mask. -/
theorem State.answered_notices (p q : Port) (r : Reply) (s : State) :
    ((s.answered p r).ports.get q).notices = (s.ports.get q).notices ∧
      ((s.answered p r).ports.get q).mask = (s.ports.get q).mask := by
  have hports : (s.answered p r).ports =
      s.ports.set p { s.ports.get p with replies := (s.ports.get p).replies ++ [r] } := by
    simp [State.answered]
  rw [hports, PerPort.get_set]
  split
  · rename_i e
    exact e ▸ ⟨rfl, rfl⟩
  · exact ⟨rfl, rfl⟩

/-! ## The warm restart -/

/-- Every queued entry is answered on its own port, in order (R177). -/
theorem State.abortQueue_get (p : Port) (s : State) : s.abortQueue.ports.get p = { s.ports.get p with
    replies := (s.ports.get p).replies ++
      (s.queue.filter (fun e => e.port == p)).map (fun e => ⟨e.tag, .aborted, []⟩) } := by
  have key : ∀ (l : List Entry) (u : State),
      (l.foldl (fun s e => s.enter e.port ⟨e.tag, .aborted, []⟩) u).ports.get p = { u.ports.get p with
        replies := (u.ports.get p).replies ++
          (l.filter (fun e => e.port == p)).map (fun e => ⟨e.tag, .aborted, []⟩) } := by
    intro l
    induction l with
    | nil => intro u; simp
    | cons e l ih =>
      intro u
      rw [List.foldl_cons, ih, State.enter_ports, PerPort.get_set]
      by_cases he : p = e.port
      · subst he
        simp
      · simp [he, Ne.symm he]
  exact key s.queue { s with queue := [] }

/-- Nothing but the reply buffers and the queue changes. -/
theorem State.abortQueue_eq (s : State) :
    s.abortQueue = { s with ports := s.abortQueue.ports, queue := [] } := by
  have key : ∀ (l : List Entry) (u : State), let v := l.foldl (fun s e => s.enter e.port ⟨e.tag, .aborted, []⟩) u
      v = { u with ports := v.ports } := by
    intro l
    induction l with
    | nil => intro u; rfl
    | cons e l ih => exact fun u => ih (u.enter e.port ⟨e.tag, .aborted, []⟩)
  exact key s.queue { s with queue := [] }

/-- The notice sets after a warm restart (R177). -/
theorem restartNotices_eq (aborted : Bool) : restartNotices aborted =
    if aborted then BitVec.ofNat 19 (2 ^ 18 + 2 ^ 17) else BitVec.ofNat 19 (2 ^ 18) := by
  cases aborted <;> rfl

end Sys2Proof.Machine

/-! PROVES. The requests on transfer tables and on notices, and RESTART. -/

namespace Sys2Proof

open Sys2Proof.Machine

/-- Settles O46: the run is checked and written; the first fall decides the commit. -/
theorem tableEdits : Obligations.TableEdits := by
  refine ⟨fun tag body s hin hsave hbad => ?_, fun sel start l tag s hsel hstart hlen hl => ?_,
    fun sel tag s hsel hin hsave hlen => ?_⟩
  · refine State.request_refused hin rfl ?_ rfl
    simp only [answerTableCommit, hsave, hbad, Bool.false_eq_true, if_false, if_true]
  · intro body passes hin htables
    obtain ⟨e0, e1, e3, e4⟩ : u8 body 0 = sel ∧ u16 body 1 = start ∧ u8 body 3 = l.length ∧
        entriesAt body 4 l.length = l := tableWrite_fields hsel hstart hlen hl
    clear_value body
    let t := s.staged.write sel (writeEntries (s.staged.table sel) start (l.map (min (tableTop sel))))
    have hrule : answerTableWrite .ap body s = if passes then
        adjusted { s with staged := t } (decide (l.map (min (tableTop sel)) ≠ l)) else refuse s .invalid := by
      simp only [answerTableWrite, e0, e1, e3, e4, Bool.and_eq_true, decide_eq_true_eq, tableRunOk_iff]
      rfl
    refine ⟨fun hno => State.request_refused hin rfl (hrule.trans (if_neg hno)) rfl, fun hyes => ?_⟩
    obtain ⟨hs, h1, h64, hrun⟩ := hyes
    have htable : t.table sel = writeEntries (s.staged.table sel) start (l.map (min (tableTop sel))) :=
      Tables.table_write_same hs _ _
    have hin' : start + (l.map (min (tableTop sel))).length ≤ (s.staged.table sel).length := by
      rw [List.length_map, htables sel hs]
      exact hrun
    refine ⟨t, fun k hk => ?_, ?_, fun i => ?_, ?_⟩
    · rw [Tables.table_write hs, if_neg hk]
    · rw [htable, writeEntries_length, htables sel hs]
    · rw [htable, writeEntries_get _ _ _ _ hin', List.length_map, List.getElem?_map]
      rfl
    · have hclamp : decide (l.map (min (tableTop sel)) ≠ l) = false ↔ (sel = 0 ∨ ∀ x ∈ l, x ≤ 4095) := by
        rw [decide_eq_false_iff_not, not_not, map_min_eq_self, tableTop]
        by_cases h0 : sel = 0
        · simp only [h0, if_true, true_or, iff_true]
          exact fun x hx => Nat.le_of_lt_succ (hl x hx)
        · simp only [h0, if_false, false_or]
      exact State.request_answered hin rfl ((hrule.trans (if_pos ⟨hs, h1, h64, hrun⟩)).trans (adjusted_eq _ _ hclamp))
        rfl
  · intro x
    have e0 : u8 (be1 sel) 0 = sel := u8_behind [] [] (by omega)
    have hsel' : ¬ 4 < sel := by omega
    refine ⟨fun hmono => ?_, fun k hk hfall hbefore => ?_⟩
    · have hnone : firstFall 0 (s.staged.table sel) = none :=
        (firstFall_eq_none _ _).2 ((nonDecreasing_iff _).2 fun k hk => hmono k (by omega))
      refine ⟨s.live.write sel (s.staged.table sel), fun k => Tables.table_write hsel _ _ k,
        State.request_answered (st := .done) (r := []) hin rfl ?_ rfl⟩
      simp only [answerTableCommit, e0, hsave, hsel', hnone, Bool.false_eq_true, if_false, done]
    · have hsome : firstFall 0 (s.staged.table sel) = some (0 + k + 1) :=
        firstFall_eq_some _ _ _ (by omega) hfall hbefore
      refine State.request_answered (st := .invalid) hin rfl ?_ rfl
      simp only [answerTableCommit, e0, hsave, hsel', hsome, Bool.false_eq_true, if_false, Nat.zero_add]

/-- Settles O52: bit by bit of the set and the mask. -/
theorem noticesAndMasks : Obligations.NoticesAndMasks := by
  refine ⟨fun s p => PortState.attention_iff _, fun p tag s hin => ?_, fun p tag n s hn hin => ?_, fun p r s q => ?_⟩
  · have ha : s.authorised .noticeRead p [] = true := by cases p <;> rfl
    exact State.request_answered hin ha rfl rfl
  · have ha : s.authorised .noticeMask p (be3 n) = true := by cases p <;> rfl
    have e0 : u24 (be3 n) 0 = n := by
      have h := u24_be3 n []
      rw [List.append_nil] at h
      rw [h, Nat.mod_eq_of_lt hn]
    refine ⟨fun hlt => ?_, fun hge => ?_⟩
    · refine State.request_answered (st := .done) hin ha ?_ rfl
      have hbits : noticeBytes (BitVec.ofNat 19 n) = be3 n := by
        rw [noticeBytes, BitVec.toNat_ofNat, Nat.mod_eq_of_lt hlt]
      simp only [answerNoticeMask, e0, show n < 2 ^ 19 from hlt, if_true, hbits]
      rfl
    · refine State.request_refused hin ha ?_ rfl
      simp only [answerNoticeMask, e0, show ¬ n < 2 ^ 19 by omega, if_false]
  · obtain ⟨hn, hm⟩ := State.answered_notices p q r s
    simp only [State.attention, PortState.attention, hn, hm]

/-- Settles O53: block by block. -/
theorem restartEffect : Obligations.RestartEffect := by
  intro tag s hin
  have habort : ∀ u : State, u.abortSave = { u with
      save := if u.saving then .aborted else u.save
      abortedOp := if u.saving then u.flashOp else u.abortedOp
      flashTimer := if u.saving then none else u.flashTimer } := fun u => by
    unfold State.abortSave
    split <;> rfl
  have hw : s.warmRestart = { s with
      ports := s.abortQueue.ports.map fun q => { q with notices := restartNotices s.saving }
      queue := []
      mesh := s.mesh.map HeadMesh.restart
      monitor := s.monitor.map fun m => { m with presence := m.presence.rewatch }
      seams := s.seams.map fun q => q.map Seam.restart
      staged := s.live
      dropped := 0
      repeated := 0
      broken := 0
      save := if s.saving then .aborted else s.save
      abortedOp := if s.saving then s.flashOp else s.abortedOp
      flashTimer := if s.saving then none else s.flashTimer } := by
    rw [State.warmRestart, State.restartBlocks, habort, State.abortQueue_eq]
    rfl
  refine ⟨s.warmRestart, State.request_answered hin rfl rfl rfl, ?_⟩
  rw [hw]
  refine ⟨fun p => ?_, fun h => Quad.get_map _ _ _, fun h => ⟨fun n hp => ?_, fun hp => ?_⟩,
    fun sl => ⟨fun hq => ?_, fun q hq => ⟨fun hf => ?_, fun f hf => ?_⟩⟩, fun hs => ⟨if_pos hs, if_pos hs,
      fun op ho => ?_, fun ho => ⟨fun k hk => ?_, fun k hk => ?_, fun hk => ?_, fun got hk => ?_⟩⟩, fun hs => ?_, rfl⟩
  · simp only [PerPort.get_map, State.abortQueue_get, restartNotices_eq]
  · simp only [Quad.get_map, hp, Presence.rewatch]
  · rw [Quad.get_map]
    cases h' : (s.monitor.get h).presence <;> simp_all [Presence.rewatch]
    all_goals rw [← h']
  · simp only [Quad.get_map, hq, Option.map_none]
  · simp only [Quad.get_map, hq, Option.map_some, Seam.restart, Seam.endFade, hf]
  · simp only [Quad.get_map, hq, Option.map_some, Seam.restart, Seam.endFade, hf, Seam.settleAt]
  · simp only [hs, if_true, State.flashOp, ho, Option.some_or]
  · simp only [hs, if_true, State.flashOp, ho, Option.none_or, hk, SaveState.op]
  · simp only [hs, if_true, State.flashOp, ho, Option.none_or, hk, SaveState.op, Nat.mul_add, Nat.mul_one, Nat.add_comm]
  · simp only [hs, if_true, State.flashOp, ho, Option.none_or, hk, SaveState.op]
  · simp only [hs, if_true, State.flashOp, ho, Option.none_or, hk, SaveState.op]
  · simp only [hs, Bool.false_eq_true, if_false, and_self]

end Sys2Proof

/-! SUPPORT. The source link: where a free buffer is found, what a source frame start fills and paces, how a frame is
classified, and the notice of a changed input state. -/

namespace Sys2Proof.Machine

/-! ## No time passing -/

theorem Timing.elapse_zero (x : Timing) : x.elapse 0 = x := by cases x <;> rfl

theorem Monitor.elapse_zero (m : Monitor) : m.elapse 0 = m := by
  obtain ⟨presence, light, sink, line, debounce, contributes⟩ := m
  cases presence <;> cases debounce <;> rfl

theorem HeadMesh.elapse_zero (m : HeadMesh) : m.elapse 0 = m := by
  obtain ⟨active, staged, claim, pending, lapse⟩ := m
  unfold HeadMesh.elapse
  split
  · rfl
  · cases claim <;> rfl

theorem PortState.elapse_zero (q : PortState) : q.elapse 0 = q := by
  obtain ⟨assembler, replies, notices, mask⟩ := q
  cases assembler <;> rfl

theorem State.elapse_zero (s : State) : s.elapse 0 = s := by
  have hmonitor : s.monitor.map (·.elapse 0) = s.monitor := Quad.ext_get fun i => by
    rw [Quad.get_map, Monitor.elapse_zero]
  have hmesh : s.mesh.map (·.elapse 0) = s.mesh := Quad.ext_get fun i => by rw [Quad.get_map, HeadMesh.elapse_zero]
  have hports : s.ports.map (·.elapse 0) = s.ports := PerPort.ext_get fun p => by
    rw [PerPort.get_map, PortState.elapse_zero]
  have htimer : ∀ t : Option Nat, t.map (· + 0) = t := fun t => by cases t <;> rfl
  simp only [State.elapse, Timing.elapse_zero, hmonitor, hmesh, hports, htimer]

/-! ## Buffers -/

/-- After a cut a buffer is FREE: of three at most one is READY and one SHOWN (R146). -/
theorem Buffers.cut_free {b : Buffers} (h : b.lawful) : Buffer.free ∈ (b.map Buffer.cut).toList := by
  obtain ⟨-, hr, hs, -⟩ := h
  obtain ⟨x, y, z⟩ := b
  simp only [Buffers.toList, List.countP_cons, List.countP_nil] at hr hs
  cases x <;> cases y <;> cases z <;>
    simp_all [Buffers.map, Buffers.toList, Buffer.cut, Buffer.isReady, Buffer.isShown]

/-- What the filling step makes of lawful buffers: the lowest-numbered FREE one of the cut buffers fills (R145). -/
theorem Buffers.fill_cut {b : Buffers} (h : b.lawful) (w : Nat) : ∃ before rest,
    (b.map Buffer.cut).toList = before ++ .free :: rest ∧ .free ∉ before ∧
      ((b.map Buffer.cut).fill w).toList = before ++ .filling w :: rest := by
  rcases (b.map Buffer.cut).fill_cases w with ⟨-, hno⟩ | hfill
  · exact absurd (Buffers.cut_free h) hno
  · exact hfill

/-- The state in which the frame in flight has been cut and a buffer fills, the run count left alone. -/
def State.filled (w : Nat) (s : State) : State :=
  { s with
    buffers := (s.buffers.map Buffer.cut).fill w
    broken := if s.buffers.any Buffer.isFilling = true then bump s.broken else s.broken }

/-- A cut frame in ACQUIRING returns the run count to 0 (R140). -/
theorem State.cutRun_eq (s : State) : s.cutRun = { s with source := { s.source with
    runCount := if s.buffers.any Buffer.isFilling = true ∧ s.source.state = .acquiring then 0
      else s.source.runCount } } := by
  by_cases h : s.buffers.any Buffer.isFilling = true ∧ s.source.state = .acquiring
  · simp only [State.cutRun, h, and_self, if_true]
  · simp only [State.cutRun, h, if_false]

/-- The filling step: the run count returns to 0 where a frame was cut in ACQUIRING (R140). -/
theorem State.fillStep_eq (w : Nat) (s : State) : s.fillStep w = { s.filled w with source := { s.source with
    runCount := if s.buffers.any Buffer.isFilling = true ∧ s.source.state = .acquiring then 0
      else s.source.runCount } } := by
  simp only [State.fillStep, State.cutRun_eq, State.cutFrame_eq]
  rfl

theorem State.fillStep_filled {w : Nat} {s : State} (h : s.source.state ≠ .acquiring) : s.fillStep w = s.filled w := by
  simp only [State.fillStep_eq, h, and_false, if_false]
  rfl

/-! ## The input state -/

/-- A changed input state is noticed (R139). -/
theorem State.setInput_changed {x : InputState} {s : State} (h : s.source.state ≠ x) :
    s.setInput x = ({ s with source := { s.source with state := x } }).withNotices (BitVec.ofNat 19 (2 ^ 16)) := by
  rw [State.setInput, if_neg h, State.raise_eq]
  rfl

/-- What a source frame start does to the input state (R140, R143). -/
theorem State.acquire_kept {s : State}
    (h : s.source.state = .acquiring ∨ s.source.state = .locked ∨ s.source.state = .unsupported) : s.acquire = s := by
  rcases h with h | h | h <;> simp only [State.acquire, h]

theorem State.acquire_noSignal {s : State} (h : s.source.state = .noSignal) : s.acquire =
    ({ s with source := { s.source with state := .acquiring, runCount := 0 } }).withNotices (BitVec.ofNat 19 (2 ^ 16)) := by
  simp only [State.acquire, h]
  rw [State.setInput_changed (by simp)]

theorem State.acquire_dark {s : State} (h : s.source.state = .holding ∨ s.source.state = .black) : s.acquire =
    ({ s with source := { s.source with state := .acquiring, runCount := 0, holdCount := 0 } }).withNotices
      (BitVec.ofNat 19 (2 ^ 16)) := by
  rcases h with h | h <;>
  · simp only [State.acquire, h]
    rw [State.setInput_changed (by simp)]

/-- What a source frame start measures and notes (R6, R142). -/
theorem State.measure_noteStart (gap : Nat) (bits : Depth) (s : State) : (s.measure gap).noteStart bits = { s with
    measured := if s.source.state = .locked ∧ s.source.prevStartLocked = true then some (max 50000 (min gap 125125))
      else s.measured
    source := { s.source with
      lossTimer := some 0
      bits := some bits
      prevStartLocked := decide (s.source.state = .locked) } } := by
  unfold State.measure
  split <;> rfl

/-! ## The pacing step -/

theorem State.paceStep_unlocked (s : State) : s.paceStep false = s := by
  unfold State.paceStep
  split <;> rfl

theorem State.paceStep_locked (s : State) :
    (∀ p e, p ≠ .fixed → s.timing = .running p false e →
      s.paceStep true = ({ s with timing := .running .following false 0 }).outputFrameStart) ∧
    (∀ p e, p ≠ .fixed → s.timing = .running p true e → s.paceStep true = s.stopOutput) ∧
    (s.timing = .stopped ∨ (∃ f e, s.timing = .running .fixed f e) → s.paceStep true = s) := by
  refine ⟨fun p e hp ht => ?_, fun p e hp ht => ?_, fun h => ?_⟩
  · cases p <;> first | exact absurd rfl hp | simp only [State.paceStep, State.frameEvent, ht, if_true]
  · cases p <;> first | exact absurd rfl hp | simp only [State.paceStep, State.frameEvent, ht, if_true]
  · rcases h with h | ⟨f, e, h⟩ <;> simp only [State.paceStep, h]

/-- Pacing in LOCKED leaves the input state LOCKED. -/
theorem State.paceStep_source {s : State} (h : s.source.state = .locked) (l : Bool) :
    (s.paceStep l).source = s.source := by
  have hframe : ∀ u : State, u.source = s.source → u.outputFrameStart.source = s.source := fun u hu => by
    rw [State.outputFrameStart_source, State.advanceHold_source, hu, if_neg (by simp [h])]
  have hevent : ∀ x, (s.frameEvent x).source = s.source := fun x => by
    unfold State.frameEvent
    split
    · rfl
    · simp
    · exact hframe _ rfl
  unfold State.paceStep
  split
  · split
    · exact hevent _
    · rfl
  · split
    · exact hevent _
    · rfl
  · rfl
  · rfl

/-! ## Frames -/

/-- Lines of one length are one frame of that width and their number (R136, R138). -/
theorem classify_regular {lines : List (List Rgb)} {w h : Nat} (hlen : lines.length = h) (h1 : 1 ≤ h)
    (hw : ∀ l ∈ lines, l.length = w) :
    classify lines = if (⟨w, h⟩ : Size).supported then .complete ⟨w, h⟩ else .outOfRange ⟨w, h⟩ := by
  cases lines with
  | nil => simp at hlen; omega
  | cons l rest =>
    have hl : l.length = w := hw l (List.mem_cons_self ..)
    have hall : (rest.all fun x => x.length == l.length) = true := by
      rw [List.all_eq_true]
      exact fun x hx => by simp [hl, hw x (List.mem_cons_of_mem _ hx)]
    rw [List.length_cons] at hlen
    simp only [classify, hall, if_true]
    rw [hl, hlen]

/-- No line, or two lines of different length, are no frame (R138). -/
theorem classify_broken {lines : List (List Rgb)}
    (h : lines = [] ∨ ∃ a ∈ lines, ∃ b ∈ lines, a.length ≠ b.length) : classify lines = .broken := by
  cases lines with
  | nil => rfl
  | cons l rest =>
    obtain ⟨a, ha, b, hb, hne⟩ := h.resolve_left (List.cons_ne_nil _ _)
    have hall : ¬ (rest.all fun x => x.length == l.length) = true := by
      intro hall
      have same : ∀ x ∈ l :: rest, x.length = l.length := fun x hx => by
        rcases List.mem_cons.1 hx with rfl | hx
        · rfl
        · simpa using List.all_eq_true.1 hall x hx
      exact hne ((same a ha).trans (same b hb).symm)
    simp only [classify, hall, Bool.false_eq_true, if_false]

/-! ## Frame ends and losses -/

section Ends

variable {s : State} {z : Size} {f : SourceFrame}

/-- The second of a run locks the input (R140). -/
theorem State.completeFrame_locks (hst : s.source.state = .acquiring)
    (hr : s.source.runCount = 1 ∧ s.source.candidate = some z) : s.completeFrame z f =
    (({ s with source := { s.source with state := .locked, locked := some z, runCount := 0 } }).withNotices
      (BitVec.ofNat 19 (2 ^ 16))).frameReady f := by
  simp only [State.completeFrame, hst]
  rw [if_pos hr, State.setInput_changed (by simp)]

/-- The first of a run is a candidate (R140). -/
theorem State.completeFrame_candidate (hst : s.source.state = .acquiring)
    (hr : ¬ (s.source.runCount = 1 ∧ s.source.candidate = some z)) :
    s.completeFrame z f = (s.setCandidate z).frameLetGo := by
  simp only [State.completeFrame, hst]
  exact if_neg hr

/-- A frame of the locked size is ready (R146). -/
theorem State.completeFrame_ready (hst : s.source.state = .locked) (hl : s.source.locked = some z) :
    s.completeFrame z f = s.frameReady f := by
  simp only [State.completeFrame, hst]
  exact if_pos hl

/-- A new size, or one after UNSUPPORTED, acquires (R141, R144). -/
theorem State.completeFrame_again
    (h : (s.source.state = .locked ∧ s.source.locked ≠ some z) ∨ s.source.state = .unsupported) :
    s.completeFrame z f = (({ s with source := { s.source with
      state := .acquiring, candidate := some z, runCount := 1 } }).withNotices (BitVec.ofNat 19 (2 ^ 16))).frameLetGo := by
  have hagain : s.source.state ≠ .acquiring → (s.setCandidate z).setInput .acquiring = ({ s with source := { s.source with
      state := .acquiring, candidate := some z, runCount := 1 } }).withNotices (BitVec.ofNat 19 (2 ^ 16)) :=
    fun hne => State.setInput_changed (s := s.setCandidate z) hne
  rcases h with ⟨hst, hl⟩ | hst
  · rw [← hagain (by simp [hst])]
    simp only [State.completeFrame, hst]
    exact if_neg hl
  · rw [← hagain (by simp [hst])]
    simp only [State.completeFrame, hst]

theorem State.completeFrame_unused
    (h : s.source.state = .noSignal ∨ s.source.state = .holding ∨ s.source.state = .black) :
    s.completeFrame z f = s.frameLetGo := by
  rcases h with h | h | h <;> simp only [State.completeFrame, h]

theorem State.outOfRangeFrame_locked (hst : s.source.state = .locked) : s.outOfRangeFrame z =
    (({ s with source := { s.source with state := .unsupported, outOfRange := some z } }).withNotices
      (BitVec.ofNat 19 (2 ^ 16))).frameLetGo := by
  simp only [State.outOfRangeFrame, hst]
  rw [State.setInput_changed (by simp)]

theorem State.outOfRangeFrame_acquiring (hst : s.source.state = .acquiring) : s.outOfRangeFrame z =
    (({ s with source := { s.source with state := .unsupported, outOfRange := some z, runCount := 0 } }).withNotices
      (BitVec.ofNat 19 (2 ^ 16))).frameLetGo := by
  simp only [State.outOfRangeFrame, hst]
  rw [State.setInput_changed (by simp)]

theorem State.outOfRangeFrame_unused (h : s.source.state = .unsupported ∨ s.source.state = .noSignal ∨
    s.source.state = .holding ∨ s.source.state = .black) :
    s.outOfRangeFrame z = ({ s with source := { s.source with outOfRange := some z } }).frameLetGo := by
  rcases h with h | h | h | h <;> simp only [State.outOfRangeFrame, h]

theorem State.loseInput_locked (hst : s.source.state = .locked) : s.loseInput = ({ s with source := { s.source with
    state := if s.source.holdTime = 0 then .black else .holding
    holdCount := 0 } }).withNotices (BitVec.ofNat 19 (2 ^ 16)) := by
  have hheld : ({ s with source := { s.source with holdCount := 0 } } : State).setInput .holding =
      ({ s with source := { s.source with state := .holding, holdCount := 0 } }).withNotices (BitVec.ofNat 19 (2 ^ 16)) :=
    State.setInput_changed (by simp [hst])
  by_cases h0 : s.source.holdTime = 0
  · simp only [State.loseInput, hst, h0, if_true] at hheld ⊢
    rw [hheld, State.setInput_changed (by simp [State.withNotices])]
    exact (State.withNotices_withNotices (BitVec.ofNat 19 (2 ^ 16)) (BitVec.ofNat 19 (2 ^ 16))
      ({ s with source := { s.source with state := .black, holdTime := 0, holdCount := 0 } })).trans
      (congrArg _ BitVec.or_self)
  · simp only [State.loseInput, hst, h0, if_false] at hheld ⊢
    exact hheld

theorem State.loseInput_acquiring (hst : s.source.state = .acquiring) : s.loseInput = ({ s with source := { s.source with
    state := .noSignal, candidate := none, runCount := 0 } }).withNotices (BitVec.ofNat 19 (2 ^ 16)) := by
  simp only [State.loseInput, hst]
  rw [State.setInput_changed (by simp)]

theorem State.loseInput_unsupported (hst : s.source.state = .unsupported) : s.loseInput =
    ({ s with source := { s.source with state := .noSignal } }).withNotices (BitVec.ofNat 19 (2 ^ 16)) := by
  simp only [State.loseInput, hst]
  rw [State.setInput_changed (by simp [hst])]

theorem State.loseInput_none
    (h : s.source.state = .noSignal ∨ s.source.state = .holding ∨ s.source.state = .black) : s.loseInput = s := by
  rcases h with h | h | h <;> simp only [State.loseInput, h]

end Ends

theorem Size.supported_iff (z : Size) :
    z.supported = true ↔ 640 ≤ z.w ∧ z.w ≤ 4096 ∧ 360 ≤ z.h ∧ z.h ≤ 2304 := by
  rw [Size.supported, decide_eq_true_eq]

/-- A frame of a supported size is written whole. -/
theorem written_whole {lines : List (List Rgb)} {w h : Nat} (d : Depth) (hlen : lines.length = h) (hh : h ≤ 2304)
    (hw : ∀ l ∈ lines, l.length = w) (hw' : w ≤ 4096) : written d lines = lines.map (·.map (widenPixel d)) := by
  rw [written, List.take_of_length_le (by omega)]
  exact List.map_congr_left fun l hl => by rw [List.take_of_length_le (by rw [hw l hl]; exact hw')]

theorem Buffers.any_ready_iff (b : Buffers) :
    b.any Buffer.isReady = true ↔ ∃ x ∈ b.toList, x.isReady = true := by
  simp [Buffers.any, Buffers.toList, or_assoc]

end Sys2Proof.Machine

/-! PROVES. The three events of the source link. -/

namespace Sys2Proof

open Sys2Proof.Machine

/-- Settles O48: the two orders of R147, and the input state by state. -/
theorem sourceFrameStart : Obligations.SourceFrameStart := by
  intro bits interval firstLine s hb i start passed gap noted fills paces
  have hnoted : ∀ (u : State) (g : Nat), u = s.elapse passed → g = gap →
      decide (u.source.state = .locked) = decide (i.state = .locked) ∧ (u.measure g).noteStart bits = noted := by
    rintro u g rfl rfl
    exact ⟨rfl, State.measure_noteStart gap bits _⟩
  have hstart : ∀ first, start first = .next (if first then
      ((noted.paceStep (decide (i.state = .locked))).fillStep firstLine).acquire
      else ((noted.fillStep firstLine).acquire).paceStep (decide (i.state = .locked))) := by
    intro first
    simp only [start, exec, execSourceFrameStart]
    cases ht : s.source.lossTimer with
    | none =>
      obtain ⟨hlock, hn⟩ := hnoted s interval (by simp only [passed, i, ht, State.elapse_zero])
        (by simp only [gap, i, ht, Option.getD_none, Nat.max_zero])
      simp only [State.sourceStart, hlock, hn]
    | some n =>
      obtain ⟨hlock, hn⟩ := hnoted (s.elapseTo interval n) (max interval n) (by simp only [passed, i, ht, State.elapseTo])
        (by simp only [gap, i, ht, Option.getD_some])
      simp only [State.sourceStart, hlock, hn]
  have hfills : ∀ a : State, a.buffersLawful → fills a (a.filled firstLine) := by
    intro a ha
    obtain ⟨before, rest, hcut, hno, hfill⟩ := Buffers.fill_cut (b := a.buffers) ha firstLine
    refine ⟨before, rest, ?_, hno, hfill, ?_⟩
    · exact hcut
    · simp only [State.filled, bump_eq]
  have hlawful : noted.buffersLawful := hb
  have hsource : noted.source.state = i.state := rfl
  refine ⟨fun hlock => ?_, fun first => ⟨noted.filled firstLine, hfills noted hlawful, fun hst => ?_, fun hst => ?_,
    fun hst => ?_, fun hst => ?_⟩⟩
  · have hpace : (noted.paceStep true).source.state = .locked := by
      rw [State.paceStep_source (s := noted) hlock, hsource, hlock]
    have hfill : ∀ a : State, a.source.state = .locked → (a.fillStep firstLine).acquire = a.filled firstLine := by
      intro a ha
      rw [State.fillStep_filled (by simp [ha])]
      exact State.acquire_kept (.inr (.inl ha))
    refine ⟨⟨noted.paceStep true, _, State.paceStep_locked noted, hfills _
      ((Keeps.paceStep true noted).buffers hlawful), ?_⟩,
      ⟨noted.filled firstLine, _, hfills noted hlawful, State.paceStep_locked _, ?_⟩⟩
    · rw [hstart, hlock, ← hfill _ hpace]
      rfl
    · rw [hstart, hlock, hfill noted hlock]
      rfl
  all_goals
    have hrest : i.state ≠ .locked → start first = .next (noted.fillStep firstLine).acquire := fun hne => by
      rw [hstart, decide_eq_false hne, State.paceStep_unlocked, State.paceStep_unlocked, ite_self]
  · rw [hrest (by simp [hst]), State.fillStep_filled (by simp [hsource, hst])]
    exact congrArg _ (State.acquire_kept (.inr (.inr hst)))
  · rw [hrest (by simp [hst]), State.fillStep_eq]
    refine congrArg _ ((State.acquire_kept (by exact .inl hst)).trans ?_)
    have hcond : (noted.buffers.any Buffer.isFilling = true ∧ noted.source.state = .acquiring) ↔
        s.buffers.any Buffer.isFilling = true := and_iff_left hst
    simp only [hcond]
    rfl
  · rw [hrest (by simp [hst]), State.fillStep_filled (by simp [hsource, hst])]
    exact congrArg _ (State.acquire_noSignal hst)
  · have hne : ∀ x : InputState, x = .locked ∨ x = .acquiring → i.state ≠ x := by
      rintro x (rfl | rfl) <;> rcases hst with h | h <;> simp [h]
    rw [hrest (hne _ (.inl rfl)), State.fillStep_filled (s := noted) (hne _ (.inr rfl))]
    exact congrArg _ (State.acquire_dark hst)

/-- Settles O49: outcome by outcome and input state by input state. -/
theorem sourceFrameEndAndLoss : Obligations.SourceFrameEndAndLoss := by
  refine ⟨?_, fun lines s hfill hbad => ?_, ?_⟩
  · intro w h lines s hfill hlen h1 hw i freed shown dropped changed fits
    have hsize : (⟨w, h⟩ : Size).supported = true ↔ fits := Size.supported_iff _
    have hready : ∀ u : State, u.buffers = s.buffers → u.dropped = s.dropped → u.running = s.running → fits →
        u.frameReady ⟨⟨w, h⟩, written (i.bits.getD .d12) lines⟩ = { u with buffers := shown, dropped := dropped } := by
      intro u hb hd hr hf
      obtain ⟨-, hw', -, hh⟩ := hf
      have hcond : (s.buffers.any Buffer.isReady && s.running) = true ↔
          s.running = true ∧ ∃ b ∈ s.buffers.toList, b.isReady = true := by
        rw [Bool.and_eq_true, Buffers.any_ready_iff, and_comm]
      rw [State.frameReady, hb, hd, hr, written_whole _ hlen hh hw hw']
      simp only [shown, dropped, hcond]
    have hfits : fits → exec (.sourceFrameEnd lines) s =
        .next (s.completeFrame ⟨w, h⟩ ⟨⟨w, h⟩, written (i.bits.getD .d12) lines⟩) := fun hf => by
      simp only [exec, execSourceFrameEnd, hfill, if_true, classify_regular hlen h1 hw, hsize.2 hf]
      rfl
    have hout : ¬ fits → exec (.sourceFrameEnd lines) s = .next (s.outOfRangeFrame ⟨w, h⟩) := fun hf => by
      simp only [exec, execSourceFrameEnd, hfill, if_true, classify_regular hlen h1 hw, mt hsize.1 hf, Bool.false_eq_true,
        if_false]
    refine ⟨fun hf hst hl => ?_, fun hf hst hr hc => ?_, fun hf hst hn => ?_, fun hf hst => ?_, fun hf hst => ?_,
      fun hf hst => ?_, fun hf hst => ?_, fun hf hst => ?_⟩
    · rw [hfits hf, State.completeFrame_ready hst hl, hready s rfl rfl rfl hf]
    · rw [hfits hf, State.completeFrame_locks hst ⟨hr, hc⟩]
      exact congrArg _ (hready _ rfl rfl rfl hf)
    · rw [hfits hf, State.completeFrame_candidate hst hn]
      rfl
    · rw [hfits hf, State.completeFrame_again hst]
      rfl
    · rw [hfits hf, State.completeFrame_unused hst]
      rfl
    · rw [hout hf, State.outOfRangeFrame_locked hst]
      rfl
    · rw [hout hf, State.outOfRangeFrame_acquiring hst]
      rfl
    · rw [hout hf, State.outOfRangeFrame_unused hst]
      rfl
  · simp only [exec, execSourceFrameEnd, hfill, if_true, classify_broken hbad, State.cutFrame_eq, State.cutRun_eq,
      true_and]
  · intro n s ht u changed v
    have hloss : exec .sourceLoss s = .next v.loseInput := by
      simp only [exec, execSourceLoss, ht, State.cutFrame_eq]
      rfl
    refine ⟨fun hst => ?_, fun hst => ?_, fun hst => ?_, fun hst => ?_⟩
    · rw [hloss, State.loseInput_locked (s := v) hst]
    · rw [hloss, State.loseInput_acquiring (s := v) hst]
    · rw [hloss, State.loseInput_unsupported (s := v) hst]
    · rw [hloss, State.loseInput_none (s := v) hst]

end Sys2Proof

/-! PROVES. The queries and the reads: what each reply body spells. -/

namespace Sys2Proof.Machine

theorem u8_be1_one {n : Nat} (hn : n < 256) : u8 (be1 n) 0 = n := u8_behind [] [] hn

/-- The fields of MESH_READ and TABLE_READ read back. -/
theorem runRead_fields {a b start count : Nat} (ha : a < 256) (hb : b < 256) (hs : fits2 start) (hc : count < 256) :
    let body := be1 a ++ be1 b ++ be2 start ++ be1 count
    u8 body 0 = a ∧ u8 body 1 = b ∧ u16 body 2 = start ∧ u8 body 4 = count :=
  ⟨u8_behind [] (be1 b ++ (be2 start ++ be1 count)) ha, u8_behind (be1 a) (be2 start ++ be1 count) hb,
    u16_behind (be1 a ++ be1 b) (be1 count) hs, u8_behind (be1 a ++ be1 b ++ be2 start) [] hc⟩

/-- The fields of LAYOUT_READ and LAYOUT_APPLY read back. -/
theorem layout_fields {id overlap : Nat} (hi : id < 256) (ho : overlap < 256) :
    u8 (be1 id ++ be1 overlap) 0 = id ∧ u8 (be1 id ++ be1 overlap) 1 = overlap :=
  ⟨u8_behind [] (be1 overlap) hi, u8_behind (be1 id) [] ho⟩

theorem HeadMesh.bank?_eq_none {m : HeadMesh} {n : Nat} (h : 1 < n) : m.bank? n = none := by
  match n, h with
  | n + 2, _ => rfl

theorem HeadMesh.bank?_of_le (m : HeadMesh) {n : Nat} (h : n ≤ 1) :
    m.bank? n = some (if n = 1 then m.staged else m.active) := by
  match n, h with
  | 0, _ => rfl
  | 1, _ => rfl

theorem State.tablesOf_eq_none {s : State} {n : Nat} (h : 1 < n) : s.tablesOf n = none := by
  match n, h with
  | n + 2, _ => rfl

theorem State.tablesOf_of_le (s : State) {n : Nat} (h : n ≤ 1) :
    s.tablesOf n = some (if n = 1 then s.staged else s.live) := by
  match n, h with
  | 0, _ => rfl
  | 1, _ => rfl

theorem preset?_eq_none {n : Nat} (h : 5 < n) : preset? n = none := by
  cases hp : preset? n with
  | none => rfl
  | some q =>
    have := preset?_lt hp
    omega

theorem preset?_of_le {n : Nat} (h : n ≤ 5) : ∃ q, preset? n = some q := by
  match n, h with
  | 0, _ | 1, _ | 2, _ | 3, _ | 4, _ | 5, _ => exact ⟨_, rfl⟩

/-- The held overlap is the one sent exactly inside 4..24 (R154). -/
theorem clampOverlap_eq_self {p : Nat} : clampOverlap p = p ↔ 4 ≤ p ∧ p ≤ 24 := by
  unfold clampOverlap
  omega

/-- A query that any port may send has authority. -/
theorem State.authorised_query (s : State) {k : Kind} (p : Port) (body : List Byte)
    (hk : k ∈ [Kind.status, .headQuery, .meshRead, .meshQuery, .seamQuery, .curveRead, .tableRead, .layoutRead]) :
    s.authorised k p body = true := by
  cases p with
  | ap => rfl
  | head j =>
    simp only [List.mem_cons, List.not_mem_nil, or_false] at hk
    rcases hk with rfl | rfl | rfl | rfl | rfl | rfl | rfl | rfl <;> rfl

/-- The reply body of HEAD_QUERY, the fields of the mode in one piece. -/
theorem headReport_eq (h : Head) (r : HeadRecord) (m : Monitor) {mode : List Byte}
    (hmode : be1 r.mode.code ++ patternBytes r.mode.fields = mode) : headReport h r m = be1 h.toNat ++
      beBool r.enabled ++ be2 r.tile.x0 ++ be2 r.tile.x1 ++ be2 r.tile.y0 ++ be2 r.tile.y1 ++ be1 (depthBits r.depth) ++
      mode ++ rgbBytes r.lift0 ++ rgbBytes r.lift1 ++ beBool r.hold ++ be1 r.period.code ++ be1 m.presence.code ++
      be1 m.light.code ++ beBool m.sink ++ beBool m.contributes := by
  simp only [headReport, ← hmode, tileBytes, monitorBytes, List.append_assoc]

/-- The reply body of SOURCE_QUERY, the fields of the run, the hold count and the depth in one piece each. -/
theorem sourceReport_eq (s : State) {run held bits : List Byte}
    (hrun : s.source.state = .acquiring → sizeBytes s.source.candidate ++ be1 s.source.runCount = run)
    (hidle : s.source.state ≠ .acquiring → [0, 0, 0, 0, 0] = run)
    (hheld : be2 (if s.source.state = .holding then s.source.holdCount else 0) = held)
    (hbits : ∀ d, s.source.bits = some d → be1 (depthBits d) = bits) (hnone : s.source.bits = none → [0] = bits) :
    sourceReport s = be1 s.source.state.code ++ sizeBytes s.source.locked ++ run ++ held ++ be2 s.source.holdTime ++
      bits ++ sizeBytes s.source.outOfRange ++ bufferBytes s.buffers.b0 ++ bufferBytes s.buffers.b1 ++
      bufferBytes s.buffers.b2 ++ be2 s.dropped ++ be2 s.repeated ++ be2 s.broken ++ be4 (s.measured.getD 0 / 3) := by
  have hr : sizeBytes (if s.source.state = .acquiring then s.source.candidate else none) ++
      be1 (if s.source.state = .acquiring then s.source.runCount else 0) = run := by
    by_cases ha : s.source.state = .acquiring
    · rw [if_pos ha, if_pos ha, hrun ha]
    · rw [if_neg ha, if_neg ha, ← hidle ha]
      rfl
  rw [← hr, ← hheld]
  cases hb : s.source.bits with
  | none => simp only [sourceReport, ← hnone hb, hb, decide_eq_true_eq, List.append_assoc]; rfl
  | some d => simp only [sourceReport, ← hbits d hb, hb, decide_eq_true_eq, List.append_assoc]

end Sys2Proof.Machine

namespace Sys2Proof

open Sys2Proof.Machine

/-- Settles O24: run by run and preset by preset. -/
theorem runReads : Obligations.RunReads := by
  refine ⟨?_, ?_, ?_⟩
  · intro p n bank start count tag s hn hbank hs hcount body fits hin
    obtain ⟨e0, e1, e2, e4⟩ : u8 body 0 = n ∧ u8 body 1 = bank ∧ u16 body 2 = start ∧ u8 body 4 = count :=
      runRead_fields hn hbank hs hcount
    have hauth := s.authorised_query p body (k := .meshRead) (by simp)
    have hbytes : body = be1 n ++ be1 bank ++ be2 start ++ be1 count := rfl
    clear_value body
    refine ⟨fun hno => State.request_refused hin hauth ?_ rfl, fun h hf hh => ?_⟩
    · cases hh : Idx4.ofNat? n with
      | none => simp only [answerMeshRead, e0, hh]
      | some h =>
        have h3 := Idx4.ofNat?_le hh
        by_cases hb : bank ≤ 1
        · simp only [answerMeshRead, e0, e1, e2, e4, hh, HeadMesh.bank?_of_le _ hb]
          exact if_neg fun hrun => hno ⟨h3, hb, hrun⟩
        · simp only [answerMeshRead, e0, e1, hh, HeadMesh.bank?_eq_none (Nat.lt_of_not_le hb)]
    · obtain ⟨-, hb, hrun⟩ := hf
      have hhead : Idx4.ofNat? n = some h := by rw [hh, Idx4.ofNat?_toNat]
      refine State.request_carried (st := .done) hin hauth ?_ (by rw [kindHead?, e0, hhead]) rfl
      simp only [answerMeshRead, e0, e1, e2, e4, hhead, HeadMesh.bank?_of_le _ hb]
      rw [if_pos hrun, hbytes, hh]
      rfl
  · intro p sel copy start count tag s hsel hcopy hs hcount body fits hin
    obtain ⟨e0, e1, e2, e4⟩ : u8 body 0 = sel ∧ u8 body 1 = copy ∧ u16 body 2 = start ∧ u8 body 4 = count :=
      runRead_fields hsel hcopy hs hcount
    have hauth := s.authorised_query p body (k := .tableRead) (by simp)
    have hbytes : body = be1 sel ++ be1 copy ++ be2 start ++ be1 count := rfl
    clear_value body
    have hrun : (decide (sel ≤ 4) && tableRunOk start count) = true ↔
        sel ≤ 4 ∧ 1 ≤ count ∧ count ≤ 64 ∧ start + count ≤ 257 := by
      rw [Bool.and_eq_true, decide_eq_true_eq, tableRunOk_iff]
    refine ⟨fun hno => State.request_refused hin hauth ?_ rfl, fun hf => ?_⟩
    · by_cases hc : copy ≤ 1
      · simp only [answerTableRead, e0, e1, e2, e4, State.tablesOf_of_le _ hc]
        exact if_neg fun h => hno ⟨(hrun.1 h).1, hc, (hrun.1 h).2⟩
      · simp only [answerTableRead, e1, State.tablesOf_eq_none (Nat.lt_of_not_le hc)]
    · obtain ⟨h4, hc, hin'⟩ := hf
      refine State.request_answered hin hauth ?_ rfl
      simp only [answerTableRead, e0, e1, e2, e4, State.tablesOf_of_le _ hc]
      rw [if_pos (hrun.2 ⟨h4, hin'⟩), hbytes]
      rfl
  · intro p id overlap tag s hid ho hin
    obtain ⟨e0, e1⟩ := layout_fields hid ho
    have hauth := s.authorised_query p (be1 id ++ be1 overlap) (k := .layoutRead) (by simp)
    refine ⟨fun h5 => State.request_refused hin hauth ?_ rfl, fun h5 => ?_⟩
    · simp only [answerLayoutRead, e0, preset?_eq_none h5]
    · obtain ⟨q, hq⟩ := preset?_of_le h5
      refine ⟨q, hq, State.request_answered hin hauth ?_ rfl⟩
      simp only [answerLayoutRead, e0, e1, hq, layoutReport, tileBytes, List.append_assoc]
      rw [if_congr clampOverlap_eq_self rfl rfl]
      rfl

/-- Settles O23: query by query, field by field. -/
theorem reports : Obligations.Reports := by
  unfold Obligations.Reports
  intro tells rgb sized buffer portOf
  have hsized : ∀ z, sizeBytes z = sized z := fun z => by cases z <;> rfl
  have hbuffer : ∀ b, bufferBytes b = buffer b := fun b => by
    cases b <;> simp only [bufferBytes, hsized, Buffer.code] <;> rfl
  have hport : ∀ q, be1 (portCode? q) = portOf q := fun q => by
    rcases q with _ | k
    · rfl
    · cases k <;> rfl
  clear_value sized buffer portOf
  refine ⟨fun p tag s hin => ?_, fun p n tag s hn hin => ⟨fun h3 => ?_, fun h hh => ?_⟩,
    fun p n tag s hn hin => ⟨fun h3 => ?_, fun h hh => ?_⟩,
    fun p n tag s hn hin => ⟨fun h3 => ?_, fun sl hsl => ⟨fun hq => ?_, fun q hq => ?_⟩⟩,
    fun p n tag s hn hin => ⟨fun h7 => ?_, fun h7 => ?_⟩, fun p n tag s hn hin => ?_⟩
  · refine State.request_answered hin (s.authorised_query p _ (by simp)) ?_ rfl
    cases ht : s.timing <;> simp only [answerStatus, statusReport, timingBytes, ht] <;> rfl
  · exact State.request_refused hin (s.authorised_query p _ (by simp))
      (by simp only [answerHeadQuery, u8_be1_one hn, Idx4.ofNat?_eq_none.2 h3]) rfl
  · intro r m
    subst hh
    refine State.request_carried hin (s.authorised_query p _ (by simp)) ?_
      (by rw [kindHead?, u8_be1_one hn, Idx4.ofNat?_toNat]) rfl
    simp only [answerHeadQuery, u8_be1_one hn, Idx4.ofNat?_toNat]
    refine congrArg (Answer.mk s .done) (headReport_eq h r m ?_)
    cases r.mode with
    | live | muted => rfl
    | pattern x =>
      cases x <;>
        simp [HeadMode.code, HeadMode.fields, Pattern.fields, patternBytes, rgbBytes, rgbZero, rgb, be1, be2]
  · exact State.request_refused hin (s.authorised_query p _ (by simp))
      (by simp only [answerMeshQuery, u8_be1_one hn, Idx4.ofNat?_eq_none.2 h3]) rfl
  · intro m
    subst hh
    refine State.request_carried hin (s.authorised_query p _ (by simp)) ?_
      (by rw [kindHead?, u8_be1_one hn, Idx4.ofNat?_toNat]) rfl
    simp only [answerMeshQuery, u8_be1_one hn, Idx4.ofNat?_toNat, meshReport, hport, HeadMesh.silentMs, m]
    cases (s.mesh.get h).claim <;> rfl
  · exact State.request_refused hin (s.authorised_query p _ (by simp))
      (by simp only [answerSeamQuery, u8_be1_one hn, Idx4.ofNat?_eq_none.2 h3]) rfl
  · subst hsl
    refine State.request_answered hin (s.authorised_query p _ (by simp)) ?_ rfl
    simp only [answerSeamQuery, u8_be1_one hn, Idx4.ofNat?_toNat, hq]
    rfl
  · subst hsl
    refine State.request_answered hin (s.authorised_query p _ (by simp)) ?_ rfl
    simp only [answerSeamQuery, u8_be1_one hn, Idx4.ofNat?_toNat, hq]
    cases hf : q.fade <;> simp only [seamReport, hf] <;> rfl
  · refine State.request_answered hin (s.authorised_query p _ (by simp)) ?_ rfl
    simp only [answerCurveRead, u8_be1_one hn, h7, if_true]
    rfl
  · refine State.request_refused hin (s.authorised_query p _ (by simp)) ?_ rfl
    simp only [answerCurveRead, u8_be1_one hn, Nat.not_le.2 h7, if_false]
  · intro i report
    have hreport : sourceReport s = report := by
      have hheld : be2 (if i.state = .holding then i.holdCount else 0) =
          if i.state = .holding then be2 i.holdCount else [0, 0] := by
        split <;> rfl
      simp only [report, ← hsized, ← hbuffer]
      refine sourceReport_eq s (fun h => (if_pos h).symm) (fun h => (if_neg h).symm) hheld (fun d hd => ?_) (fun hd => ?_)
      · simp only [i, hd]
      · simp only [i, hd]
    clear_value report
    refine ⟨fun h0 => ?_, fun hp h1 => ?_, fun hp h1 => ?_⟩
    · have hauth : s.authorised .sourceQuery p (be1 n) = true := by
        cases p with
        | ap => rfl
        | head j =>
          subst h0
          rfl
      refine State.request_answered hin hauth ?_ rfl
      simp only [answerSourceQuery, h0, hreport]
      rfl
    · subst hp
      refine State.request_answered hin rfl ?_ rfl
      simp only [answerSourceQuery, h1, hreport]
      rfl
    · subst hp
      refine State.request_refused hin rfl ?_ rfl
      simp only [answerSourceQuery, u8_be1_one hn, bool?_eq_none.2 h1]

end Sys2Proof

/-! PROVES. A save phase by phase: the operation each phase issues, what it leaves on the flash, and the end. -/

namespace Sys2Proof.Machine

section Phases

variable {s : State}

theorem State.issue_idle {x : SaveState} (h : x.inFlight = false) : s.issue x = s.flash := by
  cases x <;> first | rfl | simp [SaveState.inFlight] at h

theorem State.sectors_lt_iff {k : Nat} : k < s.sectors ↔ k * 4096 < s.image.length := by
  unfold State.sectors
  omega

theorem State.pages_lt_iff {k : Nat} (h : 256 ≤ s.image.length) : k < s.pages ↔ 256 + k * 256 < s.image.length := by
  unfold State.pages
  omega

/-- The program of a page of the body ends on the flash (R184). -/
theorem State.opEnds_writingBody {k : Nat} (h : s.save = .writingBody k) : s.opEnds = { s with
    flash := s.flash.setPage (k + 1) (.programmed ((s.image.drop (256 + 256 * k)).take 256)) } := by
  have hk : 256 * (k + 1) = 256 + 256 * k := by omega
  simp only [State.opEnds, h, SaveState.op, Flash.finish, hk]

theorem State.opEnds_writingHeader (h : s.save = .writingHeader) :
    s.opEnds = { s with flash := s.flash.setPage 0 (.programmed (s.image.take 256)) } := by
  simp only [State.opEnds, h, SaveState.op, Flash.finish]

/-- The commits that land at the end of a save: with none in flight, those pending while STOPPED (R184). -/
theorem State.endSave_mesh {x : SaveState} (hx : x.inFlight = false) (h : Head) : (s.endSave x).mesh.get h =
    if (s.mesh.get h).commitPending = true ∧ s.running = false then
      { s.mesh.get h with active := (s.mesh.get h).staged, claim := none, commitPending := false }
    else s.mesh.get h := by
  unfold State.endSave
  by_cases hr : s.running = true
  · simp [hr]
  · simp [hr, State.landAll_get, State.saving, hx]

theorem State.endSave_noticed {x : SaveState} (hx : x.inFlight = false) : s.noticed (s.endSave x) fun k =>
    k = 17 ∨ ∃ h, ((s.mesh.get h).commitPending = true ∧ s.running = false) ∧ k = h.toNat := by
  have hend := State.raise_noticed .saveFinished ({ s with save := x, flashTimer := none })
  unfold State.endSave
  by_cases hr : s.running = true
  · simp only [hr, if_true]
    exact State.noticed_congr hend fun k _ => by simp [Notice.number]
  · simp only [hr]
    refine State.noticed_congr (State.noticed_trans hend (State.landAll_noticed _)) fun k _ => ?_
    simp [Notice.number, State.saving, hx]

/-- The end of a save writes its state, its timer, what lands and the notices, nothing else (R184). -/
theorem State.endSave_frame {x : SaveState} : s.endSave x = { s with
    save := x
    flashTimer := none
    mesh := (s.endSave x).mesh
    ports := (s.endSave x).ports } := by
  unfold State.endSave
  split
  · rfl
  · apply State.eq_of_fields <;> simp

end Phases

end Sys2Proof.Machine

namespace Sys2Proof

open Sys2Proof.Machine

/-- Settles O55: each phase from the one before it. -/
theorem savePhases : Obligations.SavePhases := by
  refine ⟨fun f sector n x => ⟨?_, ?_, fun m hm => ⟨f.page_eraseSector sector m hm, ?_⟩⟩, fun tag s hin hsave => ?_,
    fun k s hk ha => ?_, fun k s hk h256 => ?_,
    fun s hk => ?_, fun got bytes read failed s hk hne hread => ?_, fun n s hsave ht => ?_, fun op s hop => ?_,
    fun x s hx => ?_⟩
  · simp [Flash.eraseSector]
  · simp [Flash.setPage]
  · by_cases hn : n < f.pages.length
    · exact f.page_setPage n m x hn
    · rw [if_neg (by omega), Flash.setPage, List.set_eq_of_length_le (by omega)]
  · refine State.request_answered hin rfl ?_ rfl
    simp only [answerSave, hsave, Bool.false_eq_true, if_false]
    rfl
  · have hexec : exec .saveEraseDone s = if k + 1 < s.sectors then .next (s.saveGoesOn (.erasing (k + 1)))
        else .next (s.saveGoesOn (.writingBody 0)) := by
      simp only [exec, execSaveEraseDone, hk, ha]
    rw [hexec]
    exact ⟨fun hlt => if_pos (State.sectors_lt_iff.2 hlt),
      fun hge => if_neg (mt State.sectors_lt_iff.1 (Nat.not_lt.2 hge))⟩
  · have hexec : exec .savePageProgrammed s =
        if k + 1 < s.pages then .next (s.opEnds.saveGoesOn (.writingBody (k + 1)))
        else .next (s.opEnds.saveGoesOn .writingHeader) := by
      simp only [exec, execSavePageProgrammed, hk]
    rw [hexec, State.opEnds_writingBody hk]
    exact ⟨fun hlt => if_pos ((State.pages_lt_iff h256).2 hlt),
      fun hge => if_neg (mt (State.pages_lt_iff h256).1 (Nat.not_lt.2 hge))⟩
  · simp only [exec, execSaveHeaderProgrammed, hk, State.opEnds_writingHeader hk]
    rfl
  · intro whole answer
    have hwhole : s.readBack got ⟨bytes, failed⟩ = whole := by
      rw [State.readBack, ← (s.flash.returns_iff failed got.length bytes read).1 hread]
    have hanswer : answer = if whole ≠ s.image.take whole.length then .next (s.endSave .failedVerify)
        else if whole.length < s.image.length then .next (s.saveGoesOn (.verifying whole))
        else .next (s.endVerify whole) := by
      simp only [answer, exec, execSaveVerifyRead, hk, hwhole, hne, if_false]
    have hend : whole = s.image → answer = .next (s.endVerify s.image) := fun e => by
      rw [hanswer, e, List.take_length, if_neg (not_not.2 rfl), if_neg (Nat.lt_irrefl _)]
    refine ⟨fun hdiff => ?_, fun hsame hlt => ?_, fun e hcrc => ?_, fun e hcrc => ?_⟩
    · rw [hanswer, if_pos (mt List.prefix_iff_eq_take.2 hdiff)]
    · rw [hanswer, if_neg (not_not.2 (List.prefix_iff_eq_take.1 hsame)), if_pos hlt]
      rfl
    · rw [hend e, State.endVerify, if_pos hcrc]
    · rw [hend e, State.endVerify, if_neg hcrc]
  · simp only [exec, execSaveFlashTimeout, hsave, ht]
    rfl
  · intro left
    have hleft : s.flash.finish op = left := by cases op <;> rfl
    have hexec : exec .abortedFlashOperationEnd s = .next { s with
        abortedOp := none
        flash := ({ s with abortedOp := none, flash := left } : State).issue s.save } := by
      simp only [exec, execAbortedFlashOperationEnd, hop, hleft]
    rw [hexec]
    refine ⟨fun hsave => ?_, fun k hk => ?_⟩
    · rw [State.issue_idle hsave]
    · rw [hk]
      rfl
  · intro t lands
    refine ⟨fun h => ?_, State.endSave_noticed hx, ?_⟩
    · simp only [t, State.endSave_mesh hx]
      exact ⟨fun h => if_pos h, fun h => if_neg h⟩
    · exact State.endSave_frame

end Sys2Proof

/-! PROVES. The cold start: how a pass over the heads announces changed contributions, what the apply of an image leaves,
the fields of a stored header, and each phase. -/

namespace Sys2Proof.Machine

/-! ## Passes that announce changed contributions -/

/-- A step on one head: no other head's contribution changes, and HEAD_CHANGED is raised exactly where its own does. -/
def State.Announces (h : Head) (s t : State) : Prop :=
  (∀ k, k ≠ h → t.contributes k = s.contributes k) ∧
    s.noticed t fun k => t.contributes h ≠ s.contributes h ∧ k = 8 + h.toNat

/-- With every slot EMPTY a re-derivation raises no SEAM_SETTLED. -/
theorem State.Announces.rederive {s : State} (h : Head) (hn : ∀ sl, s.seams.get sl = none) :
    State.Announces h s (s.rederive h) := by
  by_cases e : contribution (s.heads.get h).enabled (s.monitor.get h) = (s.monitor.get h).contributes
  · rw [State.rederive_same e]
    exact ⟨fun _ _ => rfl, State.noticed_congr (State.noticed_of_eq rfl) fun k _ => by simp⟩
  · rw [State.rederive_changed e]
    have hkept : ∀ k, ((s.contributing h).retargetHead h).contributes k = (s.contributing h).contributes k := fun k => by
      simp [State.contributes]
    refine ⟨fun k hk => ?_, State.noticed_congr (State.noticed_trans (State.contributing_noticed h s)
      (State.retargetHead_noticed h _)) fun k _ => ?_⟩
    · rw [hkept, State.contributing_contributes, if_neg hk]
    · have hne : ((s.contributing h).retargetHead h).contributes h ≠ s.contributes h := by
        rw [hkept, State.contributing_contributes, if_pos rfl]
        exact e
      simp [State.contributing_seams, hn, hne]

/-- A pass of such steps over the four heads raises HEAD_CHANGED of each contribution that changed. -/
theorem State.forEach_announces {f : Head → State → State} {ready : State → Prop} {s : State}
    (hf : ∀ h u, ready u → State.Announces h u (f h u) ∧ ready (f h u)) (hs : ready s) :
    s.noticed (forEach f s) fun k => ∃ h, (forEach f s).contributes h ≠ s.contributes h ∧ k = 8 + h.toNat := by
  obtain ⟨⟨k0, n0⟩, r0⟩ := hf .i0 s hs
  obtain ⟨⟨k1, n1⟩, r1⟩ := hf .i1 _ r0
  obtain ⟨⟨k2, n2⟩, r2⟩ := hf .i2 _ r1
  obtain ⟨⟨k3, n3⟩, -⟩ := hf .i3 _ r2
  refine State.noticed_congr (State.noticed_trans (State.noticed_trans (State.noticed_trans n0 n1) n2) n3) fun k _ => ?_
  have c0 : (forEach f s).contributes .i0 = (f .i0 s).contributes .i0 :=
    ((k3 .i0 (by decide)).trans (k2 .i0 (by decide))).trans (k1 .i0 (by decide))
  have c1 : (forEach f s).contributes .i1 = (f .i1 (f .i0 s)).contributes .i1 :=
    (k3 .i1 (by decide)).trans (k2 .i1 (by decide))
  have c2 : (forEach f s).contributes .i2 = (f .i2 (f .i1 (f .i0 s))).contributes .i2 := k3 .i2 (by decide)
  rw [← c0, ← c1, k0 .i1 (by decide), ← c2, k1 .i2 (by decide), k0 .i2 (by decide), k2 .i3 (by decide),
    k1 .i3 (by decide), k0 .i3 (by decide)]
  constructor
  · rintro (((h | h) | h) | h)
    exacts [⟨_, h⟩, ⟨_, h⟩, ⟨_, h⟩, ⟨_, h⟩]
  · rintro ⟨h, hh⟩
    cases h
    exacts [.inl (.inl (.inl hh)), .inl (.inl (.inr hh)), .inl (.inr hh), .inr hh]

/-! ## The apply of an image -/

/-- The contribution of a head right after the apply: a watched head is ABSENT and contributes nothing (R98). -/
theorem contribution_applied (enabled : Bool) (m : Monitor) (x : Period) :
    contribution enabled { m with presence := x.applied } =
      (enabled && m.sink && decide (m.light = .on) && decide (x = .off)) := by
  rw [Bool.eq_iff_iff, contribution_iff]
  cases x <;> simp [Period.applied, and_assoc]

/-- Placing the stored seams acts on the seam table alone. -/
theorem State.applySeam_eq (m : Image) (sl : Slot) (s : State) : s.applySeam m sl = { s with
    seams := s.seams.set sl (((m.seams.get sl).map fun q => Seam.place q.geo q.pin q.nOut q.nIn
      (s.contributes q.geo.falling) (s.contributes q.geo.rising)).or (s.seams.get sl)) } := by
  unfold State.applySeam
  cases m.seams.get sl with
  | none => simp
  | some q => rfl

theorem State.applySeams_eq (m : Image) (s : State) : forEach (State.applySeam m) s = { s with
    seams := Quad.ofFn fun sl => ((m.seams.get sl).map fun q => Seam.place q.geo q.pin q.nOut q.nIn
      (s.contributes q.geo.falling) (s.contributes q.geo.rising)).or (s.seams.get sl) } := by
  simp only [forEach, State.applySeam_eq]
  rfl

/-- What the apply writes of each block (R181). -/
theorem State.applyImage_eq (m : Image) (s : State) : s.applyImage m = { s with
    setup := m.setup
    heads := m.heads
    mesh := m.banks.map fun b => ⟨b, b, none, false, none⟩
    monitor := (s.applyImage m).monitor
    seams := (s.applyImage m).seams
    curves := m.curves
    live := m.tables
    staged := m.tables
    source := { s.source with holdTime := m.holdTime }
    ports := (s.applyImage m).ports } := by
  rw [State.applyImage, State.applySeams_eq]
  apply State.eq_of_fields <;> simp [State.applyStores, forEach, State.applyRecords]

theorem State.applyImage_monitor (m : Image) (s : State) (h : Head) : (s.applyImage m).monitor.get h =
    { s.monitor.get h with
      presence := (m.heads.get h).period.applied
      contributes := contribution (m.heads.get h).enabled
        { s.monitor.get h with presence := (m.heads.get h).period.applied } } := by
  simp [State.applyImage, State.applySeams_eq, State.applyStores, State.rederives_monitor, State.applyRecords]

theorem State.applyImage_seams (m : Image) (s : State) (sl : Slot) : (s.applyImage m).seams.get sl =
    (m.seams.get sl).map fun q => Seam.place q.geo q.pin q.nOut q.nIn ((s.applyImage m).contributes q.geo.falling)
      ((s.applyImage m).contributes q.geo.rising) := by
  have hempty : (forEach State.rederive (s.applyRecords m)).seams.get sl = none :=
    State.rederives_empty (fun sl => by simp [State.applyRecords]) sl
  simp [State.applyImage, State.applySeams_eq, State.applyStores, hempty, State.contributes]

theorem State.applyImage_noticed (m : Image) (s : State) : s.noticed (s.applyImage m) fun k =>
    ∃ h, (s.applyImage m).contributes h ≠ s.contributes h ∧ k = 8 + h.toNat := by
  have hpass := State.forEach_announces (f := fun h s => s.rederive h) (s := s.applyRecords m)
    (ready := fun u => ∀ sl, u.seams.get sl = none) (fun h u hu => ⟨.rederive h hu, fun sl => by
      obtain ⟨g, -, hg⟩ := State.rederive_seams h u
      rw [hg, hu]
      rfl⟩) (fun sl => by simp [State.applyRecords])
  have hports : (s.applyImage m).ports = (forEach State.rederive (s.applyRecords m)).ports := by
    simp [State.applyImage, State.applySeams_eq, State.applyStores]
  have hcontributes : ∀ h, (s.applyImage m).contributes h = (forEach State.rederive (s.applyRecords m)).contributes h :=
    fun h => by simp [State.applyImage, State.applySeams_eq, State.applyStores, State.contributes]
  have hstart : ∀ h, (s.applyRecords m).contributes h = s.contributes h := fun h => by
    simp [State.applyRecords, State.contributes]
  simp only [hcontributes, ← hstart]
  intro p
  rw [hports]
  exact hpass p

/-! ## The header -/

theorem be4_eq (n : Nat) : be4 n = be2 (n / 65536) ++ be2 (n % 65536) := by
  have byte : ∀ a b, a % 256 = b % 256 → BitVec.ofNat 8 a = BitVec.ofNat 8 b := fun a b h =>
    BitVec.eq_of_toNat_eq (by simpa using h)
  rw [be4, be2, be2, byte (n / 16777216) (n / 65536 / 256) (by omega), byte (n / 256) (n % 65536 / 256) (by omega),
    byte n (n % 65536) (by omega)]
  rfl

/-- The fields of a stored header read back (R178). -/
theorem header_fields {marker rest : List Byte} {format length check : Nat} (hm : marker.length = 4) (hf : fits2 format)
    (hl : length < 4294967296) (hc : fits2 check) :
    let header := marker ++ be2 format ++ be4 length ++ be2 check ++ rest
    header.take 4 = marker ∧ u16 header 4 = format ∧ u16 header 6 * 65536 + u16 header 8 = length ∧
      u16 header 10 = check := by
  have hfour : be4 length = be2 (length / 65536) ++ be2 (length % 65536) := be4_eq length
  have htwo : ∀ n, (be2 n).length = 2 := fun _ => rfl
  have hlow : fits2 (length % 65536) := Nat.mod_lt _ (by decide)
  have hhigh : fits2 (length / 65536) := by
    unfold fits2
    omega
  intro header
  have hheader : header =
      marker ++ (be2 format ++ (be2 (length / 65536) ++ (be2 (length % 65536) ++ (be2 check ++ rest)))) := by
    simp only [header, hfour, List.append_assoc]
  clear_value header
  subst hheader
  have e4 := u16_behind marker (be2 (length / 65536) ++ (be2 (length % 65536) ++ (be2 check ++ rest))) hf
  have e6 := u16_behind (marker ++ be2 format) (be2 (length % 65536) ++ (be2 check ++ rest)) hhigh
  have e8 := u16_behind (marker ++ be2 format ++ be2 (length / 65536)) (be2 check ++ rest) hlow
  have e10 := u16_behind (marker ++ be2 format ++ be2 (length / 65536) ++ be2 (length % 65536)) rest hc
  simp only [List.append_assoc, List.length_append, hm, htwo, Nat.reduceAdd] at e4 e6 e8 e10
  refine ⟨List.take_left' hm, e4, ?_, e10⟩
  rw [e6, e8]
  omega

/-- An empty body holds no image. -/
theorem readImage_nil : readImage [] = none := by decide

/-! ## The flash after a cold reset -/

theorem State.flashCut_cut {s : State} (h : ∃ k, s.save = .erasing k ∨ s.save = .writingBody k) :
    s.flashCut = s.flash.eraseSector 0 := by
  obtain ⟨k, h | h⟩ := h <;> simp only [State.flashCut, h]

theorem State.flashCut_kept {s : State} (h : ¬ ∃ k, s.save = .erasing k ∨ s.save = .writingBody k) :
    s.flashCut = s.flash := by
  unfold State.flashCut
  split
  · exact absurd ⟨_, .inl ‹_›⟩ h
  · exact absurd ⟨_, .inr ‹_›⟩ h
  · rfl

/-! ## The end of the cold start -/

theorem State.endColdStart_eq (code : Byte) (stored : StoredState) (s : State) : s.endColdStart code stored =
    (({ s with startCode := code, startPhase := .ended, stored := stored, flashTimer := none }).withNotices
      (BitVec.ofNat 19 (2 ^ 18))).autoStart := by
  rw [State.endColdStart, State.raise_eq]
  rfl

theorem State.running_eq_false {s : State} : s.running = false ↔ s.timing = .stopped := by
  unfold State.running
  cases s.timing <;> simp

theorem State.startOutput_fixed {s : State} (h : ∃ f, s.setup.rate = .fixed f) :
    s.startOutput = ({ s with timing := .running .fixed false 0 }).outputFrameStart := by
  obtain ⟨f, h⟩ := h
  simp only [State.startOutput, h]

theorem State.startOutput_following {s : State} (h : s.setup.rate = .source) (hl : s.source.state = .locked) :
    s.startOutput = { s with timing := .running .following false 0 } := by
  simp only [State.startOutput, h]
  exact if_pos hl

theorem State.startOutput_freeRunning {s : State} (h : s.setup.rate = .source) (hl : s.source.state ≠ .locked) :
    s.startOutput = ({ s with timing := .running .freeRunning false 0 }).outputFrameStart := by
  simp only [State.startOutput, h]
  exact if_neg hl

end Sys2Proof.Machine

namespace Sys2Proof

open Sys2Proof.Machine

/-- Settles O54: phase by phase to the end of the cold start. -/
theorem coldStart : Obligations.ColdStart := by
  refine ⟨fun straps s => ⟨s.flashCut, ?_, State.flashCut_length s, ?_⟩, fun ident s hp => ⟨fun hb => ?_, fun hb => ?_⟩,
    fun bytes failed s hp hlen herased => ?_,
    fun bytes marker failed format length check rest s hp hm hf hl hc hread => ?_,
    fun length check got bytes read failed s hp hne hread => ?_, fun n s hs ht => ?_, fun code stored s => ?_⟩
  · simp only [exec, execColdReset, State.cold]
    rfl
  · intro cutOff
    refine ⟨fun hno => ?_, fun hcut n hn => ?_⟩
    · exact State.flashCut_kept hno
    · rw [State.flashCut_cut hcut, Flash.page_eraseSector _ _ _ hn]
      exact if_congr (by omega) rfl rfl
  · simp only [exec, execFlashIdentifyAnswered, hp]
    rw [if_neg (by simpa using hb)]
  · simp only [exec, execFlashIdentifyAnswered, hp]
    rw [if_pos (by simpa using hb)]
  · have hlong : ¬ bytes.length < 12 := Nat.not_lt.2 hlen
    simp only [exec, execHeaderReadAnswered, hp, hlong, if_false]
    rw [if_pos]
    · rfl
    · cases bytes with
      | nil => simp at hlen
      | cons b rest => exact Flash.answer_erased _ _ _ _ herased
  · intro answer
    have hheader := (s.flash.returns_iff failed 0 bytes _).1 hread
    obtain ⟨ht, e4, e6, e10⟩ := header_fields (rest := rest) hm hf hl hc
    have hlong : ¬ bytes.length < 12 := by
      rw [← hread.1]
      simp [hm, be2, be4]
      omega
    have hanswer : answer = if marker ≠ imageMarker then .next (s.noImage 0x12)
        else if format ≠ 1 ∨ Config.bodyRoom < length then .next (s.badImage 0x14)
        else if length = 0 then .next (s.checkBody (BitVec.ofNat 16 check) [])
        else .next { s with startPhase := .body length (BitVec.ofNat 16 check) [], flashTimer := some 0 } := by
      simp only [answer, exec, execHeaderReadAnswered, hp, ← hheader, hlong, if_false, ht, e4, e6, e10]
    have hnil : s.checkBody (BitVec.ofNat 16 check) [] =
        s.endColdStart (if check = (crc []).toNat then 0x14 else 0x13) .invalid := by
      have hcrc : crc [] = BitVec.ofNat 16 check ↔ check = (crc []).toNat := by
        rw [← BitVec.toNat_inj, BitVec.toNat_ofNat, Nat.mod_eq_of_lt hc, eq_comm]
      rw [State.checkBody, if_congr hcrc rfl rfl]
      simp only [readImage_nil]
      split <;> rfl
    rw [hanswer]
    refine ⟨fun h => if_pos h, fun h h' => ?_, fun h hf h1 hr => ?_, fun h hf h0 => ?_⟩
    · rw [if_neg (not_not.2 (show marker = imageMarker from h)),
        if_pos (show format ≠ 1 ∨ Config.bodyRoom < length from h')]
      rfl
    · have hroom : ¬ (format ≠ 1 ∨ Config.bodyRoom < length) := by
        simp only [hf, Config.bodyRoom]
        omega
      rw [if_neg (not_not.2 (show marker = imageMarker from h)), if_neg hroom, if_neg (by omega)]
    · have hroom : ¬ (format ≠ 1 ∨ Config.bodyRoom < length) := by
        simp only [hf, Config.bodyRoom]
        omega
      rw [if_neg (not_not.2 (show marker = imageMarker from h)), if_neg hroom, if_pos h0, hnil]
  · intro all answer
    have hanswer : answer = if all.length < length then
        .next { s with startPhase := .body length check all, flashTimer := some 0 }
        else .next (s.checkBody check all) := by
      simp only [answer, exec, execBodyReadAnswered, hp, hne, if_false,
        ← (s.flash.returns_iff failed (256 + got.length) bytes read).1 hread]
      rfl
    have hwhole : length ≤ (got ++ read).length → answer = .next (s.checkBody check all) := fun hle => by
      rw [hanswer, if_neg]
      rw [List.length_take, Nat.min_eq_left hle]
      exact Nat.lt_irrefl _
    refine ⟨fun hlt => ?_, fun hle hcrc => ?_, fun hle hcrc hread => ?_, fun m hle hcrc hread =>
      ⟨s.applyImage m, ?_, fun h => ?_, fun h => ?_, fun sl => ⟨fun hq => ?_, fun q hq => ?_⟩,
        State.applyImage_noticed m s, ?_⟩⟩
    · have hall : all = got ++ read := List.take_of_length_le (Nat.le_of_lt hlt)
      rw [hanswer, hall, if_pos hlt]
    · rw [hwhole hle, State.checkBody, if_neg hcrc]
      rfl
    · rw [hwhole hle, State.checkBody, if_pos hcrc]
      simp only [hread]
      rfl
    · rw [hwhole hle, State.checkBody, if_pos hcrc]
      simp only [hread]
    · rw [State.applyImage_eq]
      exact Quad.get_map ..
    · intro r
      have hpresence : r.period.applied = if r.period = .off then .notWatched else .absent := by
        cases r.period <;> rfl
      rw [State.applyImage_monitor, contribution_applied, hpresence]
    · rw [State.applyImage_seams, hq]
      rfl
    · rw [State.applyImage_seams, hq]
      rfl
    · rw [State.applyImage_eq]
  · simp only [exec, execStartupFlashTimeout, hs, ht]
    rfl
  · intro t starts
    have hend : s.endColdStart code stored = t.autoStart := State.endColdStart_eq ..
    have hcond : (t.setup.autoStart && !t.running) = true ↔ starts := by
      rw [Bool.and_eq_true, Bool.not_eq_true', State.running_eq_false]
      exact Iff.rfl
    have hstart : starts → s.endColdStart code stored = t.startOutput := fun h => by
      rw [hend, State.autoStart, if_pos (hcond.2 h)]
    refine ⟨fun h => ?_, fun h hr => ?_, fun h hr hl => ?_, fun h hr hl => ?_⟩
    · rw [hend, State.autoStart, if_neg (mt hcond.1 h)]
    · rw [hstart h, State.startOutput_fixed (s := t) hr]
    · rw [hstart h, State.startOutput_following (s := t) hr hl]
    · rw [hstart h, State.startOutput_freeRunning (s := t) hr hl]

end Sys2Proof

/-! PROVES. The stored image: each item written reads back, and so does the whole body. -/

namespace Sys2Proof.Machine

/-! ## Lengths -/

theorem setupBytes_length (o : OutputSetup) : (setupBytes o).length = 7 := rfl

theorem recordBytes_length (r : HeadRecord) : (recordBytes r).length = 37 := rfl

theorem slotBytes_length (q : Option StoredSeam) : (slotBytes q).length = 12 := by cases q <;> rfl

theorem nodesBytes_length (l : List Node) : (l.flatMap nodeBytes).length = 7 * l.length := by
  induction l with
  | nil => rfl
  | cons n l ih => simp [ih]; omega

/-! ## Groups of fields -/

theorem rgbAt_append_right (l r : List Byte) (i : Nat) (h : l.length ≤ i) :
    rgbAt (l ++ r) i = rgbAt r (i - l.length) := by
  simp only [rgbAt, u16_append_right l r i h, u16_append_right l r (i + 2) (by omega),
    u16_append_right l r (i + 4) (by omega), Nat.sub_add_comm h]

theorem tileAt_append_right (l r : List Byte) (i : Nat) (h : l.length ≤ i) :
    tileAt (l ++ r) i = tileAt r (i - l.length) := by
  simp only [tileAt, u16_append_right l r i h, u16_append_right l r (i + 2) (by omega),
    u16_append_right l r (i + 4) (by omega), u16_append_right l r (i + 6) (by omega), Nat.sub_add_comm h]

theorem patternAt_append_right (l r : List Byte) (i : Nat) (h : l.length ≤ i) :
    patternAt (l ++ r) i = patternAt r (i - l.length) := by
  simp only [patternAt, u8_append_right l r i h, rgbAt_append_right l r (i + 1) (by omega),
    u16_append_right l r (i + 7) (by omega), u16_append_right l r (i + 9) (by omega), Nat.sub_add_comm h]

theorem rgbAt_read {c : Rgb} (r : List Byte) (h0 : fits2 c.r) (h1 : fits2 c.g) (h2 : fits2 c.b) :
    rgbAt (rgbBytes c ++ r) 0 = c := by
  have e0 := u16_behind [] (be2 c.g ++ (be2 c.b ++ r)) h0
  have e1 := u16_behind (be2 c.r) (be2 c.b ++ r) h1
  have e2 := u16_behind (be2 c.r ++ be2 c.g) r h2
  simp only [rgbAt, rgbBytes, List.append_assoc] at e0 e1 e2 ⊢
  exact congr (congr (congrArg Rgb.mk e0) e1) e2

theorem tileAt_read {t : Tile} (r : List Byte) (h : t.ok = true) : tileAt (tileBytes t ++ r) 0 = t := by
  obtain ⟨hx, hy, hx', hy'⟩ := (Tile.ok_iff t).1 h
  have h0 : fits2 t.x0 := by unfold fits2; omega
  have h1 : fits2 t.x1 := by unfold fits2; omega
  have h2 : fits2 t.y0 := by unfold fits2; omega
  have h3 : fits2 t.y1 := by unfold fits2; omega
  have e0 := u16_behind [] (be2 t.x1 ++ (be2 t.y0 ++ (be2 t.y1 ++ r))) h0
  have e1 := u16_behind (be2 t.x0) (be2 t.y0 ++ (be2 t.y1 ++ r)) h1
  have e2 := u16_behind (be2 t.x0 ++ be2 t.x1) (be2 t.y1 ++ r) h2
  have e3 := u16_behind (be2 t.x0 ++ be2 t.x1 ++ be2 t.y0) r h3
  simp only [tileAt, tileBytes, List.append_assoc] at e0 e1 e2 e3 ⊢
  exact congr (congr (congr (congrArg Tile.mk e0) e1) e2) e3

theorem rgbAt_behind (pre r : List Byte) {c : Rgb} (h : fits2 c.r ∧ fits2 c.g ∧ fits2 c.b) :
    rgbAt (pre ++ (rgbBytes c ++ r)) pre.length = c := by
  obtain ⟨h0, h1, h2⟩ := h
  rw [rgbAt_append_right _ _ _ le_rfl, Nat.sub_self, rgbAt_read r h0 h1 h2]

theorem tileAt_behind (pre r : List Byte) {t : Tile} (h : t.ok = true) :
    tileAt (pre ++ (tileBytes t ++ r)) pre.length = t := by
  rw [tileAt_append_right _ _ _ le_rfl, Nat.sub_self, tileAt_read r h]

/-- Pattern fields within their widths (R163). -/
def PatternFields.fits (f : PatternFields) : Prop :=
  f.kind < 256 ∧ fits2 f.codes.r ∧ fits2 f.codes.g ∧ fits2 f.codes.b ∧ fits2 f.level ∧ fits2 f.spacing

theorem patternAt_read {f : PatternFields} (r : List Byte) (h : f.fits) : patternAt (patternBytes f ++ r) 0 = f := by
  obtain ⟨hk, hr, hg, hb, hl, hs⟩ := h
  have e0 := u8_behind [] (rgbBytes f.codes ++ (be2 f.level ++ (be2 f.spacing ++ r))) hk
  have e1 : rgbAt (be1 f.kind ++ (rgbBytes f.codes ++ (be2 f.level ++ (be2 f.spacing ++ r)))) 1 = f.codes := by
    rw [rgbAt_append_right _ _ _ (by simp)]
    exact rgbAt_read _ hr hg hb
  have e2 := u16_behind (be1 f.kind ++ rgbBytes f.codes) (be2 f.spacing ++ r) hl
  have e3 := u16_behind (be1 f.kind ++ rgbBytes f.codes ++ be2 f.level) r hs
  simp only [patternAt, patternBytes, List.append_assoc] at e0 e1 e2 e3 ⊢
  exact congr (congr (congr (congrArg PatternFields.mk e0) e1) e2) e3

theorem patternAt_behind (pre r : List Byte) {f : PatternFields} (h : f.fits) :
    patternAt (pre ++ (patternBytes f ++ r)) pre.length = f := by
  rw [patternAt_append_right _ _ _ le_rfl, Nat.sub_self, patternAt_read r h]

/-! ## The items -/

theorem bool?_flag (b : Bool) : bool? (if b then 1 else 0) = some b := by cases b <;> rfl

theorem flag_lt (b : Bool) : (if b then 1 else 0) < 256 := by cases b <;> decide

theorem Rate.code_lt (r : Rate) : r.code < 256 := by
  cases r with
  | source => decide
  | fixed f => cases f <;> decide

theorem HeadMode.code_lt (m : HeadMode) : m.code < 256 := by cases m <;> simp [HeadMode.code]

theorem Pin.code_lt (x : Pin) : x.code < 256 := by
  cases x with
  | auto => decide
  | fixed m => cases m <;> decide

theorem setup?_read {o : OutputSetup} (r : List Byte)
    (h : 640 ≤ o.w ∧ o.w ≤ 4096 ∧ 360 ≤ o.h ∧ o.h ≤ 2304 ∧ (o.s = 64 ∨ o.s = 128)) :
    setup? (setupBytes o ++ r) = some o := by
  have hranges := h
  obtain ⟨hw, hw', hh, hh', hs⟩ := h
  have e0 : u16 (setupBytes o ++ r) 0 = o.w := u16_behind [] _ (by unfold fits2; omega)
  have e2 : u16 (setupBytes o ++ r) 2 = o.h := u16_behind (be2 o.w) _ (by unfold fits2; omega)
  have e4 : u8 (setupBytes o ++ r) 4 = o.s := u8_behind (be2 o.w ++ be2 o.h) _ (by omega)
  have e5 : u8 (setupBytes o ++ r) 5 = o.rate.code := u8_behind (be2 o.w ++ be2 o.h ++ be1 o.s) _ (Rate.code_lt _)
  have e6 : u8 (setupBytes o ++ r) 6 = if o.autoStart then 1 else 0 :=
    u8_behind (be2 o.w ++ be2 o.h ++ be1 o.s ++ be1 o.rate.code) _ (flag_lt _)
  simp only [setup?, e0, e2, e4, e5, e6, Rate.ofCode?_code, bool?_flag]
  exact if_pos hranges

/-- A pattern record of the ranges of R129 reads back from its wire fields. -/
theorem Pattern.fields_pattern (q : Pattern) : q.fields.pattern? = some q := by cases q <;> rfl

theorem Pattern.fields_fits {q : Pattern} (h : q.clamp = q) : q.fields.fits := by
  unfold PatternFields.fits fits2
  cases q with
  | rawFlat c =>
    obtain ⟨r, g, b⟩ := c
    simp only [Pattern.clamp, rgbMap, Pattern.rawFlat.injEq, Rgb.mk.injEq] at h
    simp only [Pattern.fields]
    omega
  | rawGrid l | rawDots l =>
    simp only [Pattern.clamp, Pattern.rawGrid.injEq, Pattern.rawDots.injEq] at h
    simp only [Pattern.fields, rgbZero]
    omega
  | canvasGrid z l =>
    simp only [Pattern.clamp, Pattern.canvasGrid.injEq] at h
    simp only [Pattern.fields, rgbZero]
    omega
  | weightView => decide

theorem HeadMode.storedFields_fits {m : HeadMode} (h : ∀ p, m = .pattern p → p.clamp = p) : m.storedFields.fits := by
  cases m with
  | live | muted => unfold PatternFields.fits fits2; decide
  | pattern q => exact Pattern.fields_fits (h q rfl)

theorem readMode_stored {m : HeadMode} (h : ∀ p, m = .pattern p → p.clamp = p) :
    readMode m.code (if m.isPattern then 1 else 0) m.storedFields = some m := by
  cases m with
  | live | muted => rfl
  | pattern q =>
    have hread : q.fields.pattern? = some q := q.fields_pattern
    simp only [readMode, HeadMode.code, HeadMode.isPattern, HeadMode.storedFields, if_true, hread]
    exact if_pos (h q rfl)

theorem liftOk_fits {c : Rgb} (h : liftOk c = true) : fits2 c.r ∧ fits2 c.g ∧ fits2 c.b := by
  simp only [liftOk, decide_eq_true_eq] at h
  unfold fits2
  omega

/-- The first twelve bytes of a head record: flags, tile, depth and mode. -/
def recordHead (x : HeadRecord) : List Byte :=
  beBool x.enabled ++ tileBytes x.tile ++ be1 (depthBits x.depth) ++ be1 x.mode.code ++ beBool x.mode.isPattern

/-- The rest of a head record: pattern, lifts, hold and period. -/
def recordTail (x : HeadRecord) : List Byte :=
  patternBytes x.mode.storedFields ++ rgbBytes x.lift0 ++ rgbBytes x.lift1 ++ beBool x.hold ++ be1 x.period.code

theorem recordBytes_split (x : HeadRecord) : recordBytes x = recordHead x ++ recordTail x := by
  simp only [recordBytes, recordHead, recordTail, List.append_assoc]

theorem recordHead_fields {x : HeadRecord} (r : List Byte) (h : x.tile.ok = true) :
    u8 (recordHead x ++ r) 0 = (if x.enabled then 1 else 0) ∧ tileAt (recordHead x ++ r) 1 = x.tile ∧
      u8 (recordHead x ++ r) 9 = depthBits x.depth ∧ u8 (recordHead x ++ r) 10 = x.mode.code ∧
      u8 (recordHead x ++ r) 11 = if x.mode.isPattern then 1 else 0 :=
  ⟨u8_behind [] _ (flag_lt _), tileAt_behind (beBool x.enabled) _ h,
    u8_behind (beBool x.enabled ++ tileBytes x.tile) _ (by cases x.depth <;> decide),
    u8_behind (beBool x.enabled ++ tileBytes x.tile ++ be1 (depthBits x.depth)) _ (HeadMode.code_lt _),
    u8_behind (beBool x.enabled ++ tileBytes x.tile ++ be1 (depthBits x.depth) ++ be1 x.mode.code) _ (flag_lt _)⟩

theorem recordTail_fields {x : HeadRecord} (r : List Byte) (h : x.lawful) :
    patternAt (recordTail x ++ r) 0 = x.mode.storedFields ∧ rgbAt (recordTail x ++ r) 11 = x.lift0 ∧
      rgbAt (recordTail x ++ r) 17 = x.lift1 ∧ u8 (recordTail x ++ r) 23 = (if x.hold then 1 else 0) ∧
      u8 (recordTail x ++ r) 24 = x.period.code := by
  obtain ⟨-, hl0, hl1, hmode⟩ := h
  let pattern := patternBytes x.mode.storedFields
  let lifts := pattern ++ rgbBytes x.lift0 ++ rgbBytes x.lift1
  exact ⟨patternAt_behind [] _ (HeadMode.storedFields_fits hmode), rgbAt_behind pattern _ (liftOk_fits hl0),
    rgbAt_behind (pattern ++ rgbBytes x.lift0) _ (liftOk_fits hl1), u8_behind lifts _ (flag_lt _),
    u8_behind (lifts ++ beBool x.hold) _ (by cases x.period <;> decide)⟩

theorem readRecord_read {x : HeadRecord} (r : List Byte) (h : x.lawful) : readRecord (recordBytes x ++ r) = some x := by
  obtain ⟨e0, e1, e9, e10, e11⟩ := recordHead_fields (recordTail x ++ r) h.1
  obtain ⟨e12, e23, e29, e35, e36⟩ := recordTail_fields r h
  obtain ⟨htile, hl0, hl1, hmode⟩ := h
  have hlen : (recordHead x).length = 12 := rfl
  have h12 := patternAt_append_right (recordHead x) (recordTail x ++ r) 12 (by omega)
  have h23 := rgbAt_append_right (recordHead x) (recordTail x ++ r) 23 (by omega)
  have h29 := rgbAt_append_right (recordHead x) (recordTail x ++ r) 29 (by omega)
  have h35 := u8_append_right (recordHead x) (recordTail x ++ r) 35 (by omega)
  have h36 := u8_append_right (recordHead x) (recordTail x ++ r) 36 (by omega)
  rw [hlen] at h12 h23 h29 h35 h36
  rw [recordBytes_split, List.append_assoc]
  simp only [readRecord, e0, e1, e9, e10, e11, h12, h23, h29, h35, h36, Nat.reduceSub, e12, e23, e29, e35, e36, bool?_flag,
    depth?_bits, Period.ofCode?_code, readMode_stored hmode, htile, hl0, hl1, Bool.and_self, if_true]

/-- A geometry and a pin pass the checks of R57 as they are written. -/
theorem SeamFields.check_written {g : SeamGeometry} (x : Pin) (h : g.shaped) :
    (SeamFields.mk g.orientation.code g.falling.toNat g.rising.toNat g.a g.b g.curve x.code).check = some (g, x) := by
  obtain ⟨hne, hc, hlow, hhigh⟩ := h
  simp only [SeamFields.check, Orientation.ofCode?_code, Pin.ofCode?_code, Idx4.ofNat?_toNat]
  exact if_pos ⟨hne, hc, hlow, hhigh⟩

theorem readSlot_read {q : Option StoredSeam} (r : List Byte)
    (h : ∀ x, q = some x → x.geo.shaped ∧ fits2 x.geo.b ∧ x.nOut < 256 ∧ x.nIn < 256) :
    readSlot (slotBytes q ++ r) = some q := by
  cases q with
  | none => rfl
  | some x =>
    obtain ⟨hshaped, hb, hout, hin⟩ := h x rfl
    have hshape := hshaped
    obtain ⟨hne, hc, hlow, hhigh⟩ := hshape
    have ha : fits2 x.geo.a := by
      unfold fits2 at hb ⊢
      omega
    have hidx : ∀ i : Idx4, i.toNat < 256 := fun i => by cases i <;> decide
    let ids := beBool true ++ be1 x.geo.orientation.code ++ be1 x.geo.falling.toNat ++ be1 x.geo.rising.toNat
    have e0 : u8 (slotBytes (some x) ++ r) 0 = 1 := rfl
    have e1 : seamAt (slotBytes (some x) ++ r) 1 = SeamFields.mk x.geo.orientation.code x.geo.falling.toNat
        x.geo.rising.toNat x.geo.a x.geo.b x.geo.curve x.pin.code := by
      have f1 : u8 (slotBytes (some x) ++ r) 1 = x.geo.orientation.code :=
        u8_behind (beBool true) _ (by cases x.geo.orientation <;> decide)
      have f2 : u8 (slotBytes (some x) ++ r) 2 = x.geo.falling.toNat :=
        u8_behind (beBool true ++ be1 x.geo.orientation.code) _ (hidx _)
      have f3 : u8 (slotBytes (some x) ++ r) 3 = x.geo.rising.toNat :=
        u8_behind (beBool true ++ be1 x.geo.orientation.code ++ be1 x.geo.falling.toNat) _ (hidx _)
      have f4 : u16 (slotBytes (some x) ++ r) 4 = x.geo.a := u16_behind ids _ ha
      have f6 : u16 (slotBytes (some x) ++ r) 6 = x.geo.b := u16_behind (ids ++ be2 x.geo.a) _ hb
      have f8 : u8 (slotBytes (some x) ++ r) 8 = x.geo.curve :=
        u8_behind (ids ++ be2 x.geo.a ++ be2 x.geo.b) _ (by omega)
      have f9 : u8 (slotBytes (some x) ++ r) 9 = x.pin.code :=
        u8_behind (ids ++ be2 x.geo.a ++ be2 x.geo.b ++ be1 x.geo.curve) _ (Pin.code_lt _)
      simp only [seamAt, f1, f2, f3, f4, f6, f8, f9, Nat.reduceAdd]
    let fields := ids ++ be2 x.geo.a ++ be2 x.geo.b ++ be1 x.geo.curve ++ be1 x.pin.code
    have e10 : u8 (slotBytes (some x) ++ r) 10 = x.nOut := u8_behind fields _ hout
    have e11 : u8 (slotBytes (some x) ++ r) 11 = x.nIn := u8_behind (fields ++ be1 x.nOut) _ hin
    simp only [readSlot, e0, e1, SeamFields.check_written x.pin hshaped, e10, e11]

theorem readNodes_read (l : List Node) (hl : ∀ n ∈ l, n.ok = true) (r : List Byte) :
    readNodes l.length (l.flatMap nodeBytes ++ r) = l := by
  induction l with
  | nil => rfl
  | cons n l ih =>
    have hn := hl n (List.mem_cons_self ..)
    have hfits : fits3 n.u ∧ fits3 n.v := by
      simp only [Node.ok, decide_eq_true_eq] at hn
      unfold fits3
      omega
    rw [List.length_cons, readNodes, List.flatMap_cons, List.append_assoc, nodeAt_read n _ hfits.1 hfits.2,
      List.drop_left' (nodeBytes_length n), ih fun x hx => hl x (List.mem_cons_of_mem _ hx)]

theorem readEntries_read (l : List Nat) (hl : ∀ x ∈ l, fits2 x) (r : List Byte) :
    readEntries l.length (entryBytes l ++ r) = l := by
  induction l with
  | nil => rfl
  | cons x l ih =>
    have hx : u16 (be2 x ++ (entryBytes l ++ r)) 0 = x := u16_behind [] _ (hl x (List.mem_cons_self ..))
    have hsplit : entryBytes (x :: l) ++ r = be2 x ++ (entryBytes l ++ r) := by
      simp only [entryBytes, List.flatMap_cons, List.append_assoc]
    have htwo : (be2 x).length = 2 := rfl
    rw [List.length_cons, readEntries, hsplit, hx, List.drop_left' htwo, ih fun y hy => hl y (List.mem_cons_of_mem _ hy)]

/-! ## Four of a kind -/

theorem quad?_of_get {α : Type} {f : Idx4 → Option α} {q : Quad α} (h : ∀ i, f i = some (q.get i)) :
    quad? f = some q := by
  simp only [quad?, h]
  rfl

/-- Of four runs of one length, the one at a place stands that many lengths from the start. -/
theorem Quad.drop_flatMap {α : Type} {f : α → List Byte} {n : Nat} {q : Quad α} (h : ∀ i, (f (q.get i)).length = n)
    (r : List Byte) (i : Idx4) : ∃ r', (q.toList.flatMap f ++ r).drop (n * i.toNat) = f (q.get i) ++ r' := by
  have h0 := h .i0
  have h1 := h .i1
  have h2 := h .i2
  have hall : q.toList.flatMap f ++ r =
      f (q.get .i0) ++ (f (q.get .i1) ++ (f (q.get .i2) ++ (f (q.get .i3) ++ r))) := by
    simp [Quad.toList, Quad.get]
  rw [hall]
  cases i with
  | i0 => exact ⟨_, rfl⟩
  | i1 => exact ⟨_, List.drop_left' (by simp [h0, Idx4.toNat])⟩
  | i2 =>
    refine ⟨f (q.get .i3) ++ r, ?_⟩
    rw [← List.append_assoc]
    exact List.drop_left' (by simp [h0, h1, Idx4.toNat]; omega)
  | i3 =>
    refine ⟨r, ?_⟩
    rw [← List.append_assoc, ← List.append_assoc]
    exact List.drop_left' (by simp [h0, h1, h2, Idx4.toNat]; omega)

theorem Quad.length_flatMap {α : Type} {f : α → List Byte} {n : Nat} {q : Quad α} (h : ∀ i, (f (q.get i)).length = n) :
    (q.toList.flatMap f).length = 4 * n := by
  have h0 := h .i0
  have h1 := h .i1
  have h2 := h .i2
  have h3 := h .i3
  simp only [Quad.get] at h0 h1 h2 h3
  simp [Quad.toList, h0, h1, h2, h3]
  omega

end Sys2Proof.Machine

/-! PROVES. The body of a stored image, part by part, and its round trip. -/

namespace Sys2Proof.Machine

/-! ## The parts of a body -/

/-- The last part of a body: transfer tables and hold time. -/
def Image.tablePart (m : Image) : List Byte :=
  entryBytes m.tables.decode ++ (m.tables.encode.toList.flatMap entryBytes ++ be2 m.holdTime)

/-- The curves and what follows them. -/
def Image.curvePart (m : Image) : List Byte :=
  entryBytes m.curves.c3 ++ (m.curves.c4to7.toList.flatMap entryBytes ++ m.tablePart)

/-- The seam slots and what follows them. -/
def Image.seamPart (m : Image) : List Byte := m.seams.toList.flatMap slotBytes ++ m.curvePart

/-- The banks and what follows them. -/
def Image.bankPart (m : Image) : List Byte := m.banks.toList.flatMap (fun b => b.flatMap nodeBytes) ++ m.seamPart

theorem Image.body_eq (m : Image) :
    m.body = setupBytes m.setup ++ (m.heads.toList.flatMap recordBytes ++ m.bankPart) := by
  simp only [Image.body, Image.bankPart, Image.seamPart, Image.curvePart, Image.tablePart, List.append_assoc]

theorem Image.drop_heads (m : Image) : m.body.drop 7 = m.heads.toList.flatMap recordBytes ++ m.bankPart := by
  rw [Image.body_eq]
  exact List.drop_left' (setupBytes_length _)

theorem Image.drop_banks (m : Image) : m.body.drop 155 = m.bankPart := by
  rw [show (155 : Nat) = 7 + 148 from rfl, ← List.drop_drop, Image.drop_heads]
  exact List.drop_left' (Quad.length_flatMap fun k => recordBytes_length (m.heads.get k))

theorem readEntries_of_length {n : Nat} {l : List Nat} (hlen : l.length = n) (hl : ∀ x ∈ l, fits2 x) (r : List Byte) :
    readEntries n (entryBytes l ++ r) = l := by
  rw [← hlen, readEntries_read l hl]

section Parts

variable {m : Image} (hm : m.lawful)
include hm

theorem Image.bank_length (h : Head) : ((m.banks.get h).flatMap nodeBytes).length = 7 * m.setup.nodes := by
  rw [nodesBytes_length, (Image.lawful_banks hm h).1]

theorem Image.curve_length (n : Nat) (h3 : 3 ≤ n) (h7 : n ≤ 7) : (m.curves.curve n).length = 65 :=
  (curveOk_iff.1 (Image.lawful_curves hm n h3 h7)).1

/-- A lawful curve's entries stay within 4,096. -/
theorem Image.curve_fits (n : Nat) (h3 : 3 ≤ n) (h7 : n ≤ 7) : ∀ x ∈ m.curves.curve n, fits2 x := by
  have hc := Image.lawful_curves hm n h3 h7
  obtain ⟨hlen, -, hlast, -⟩ := curveOk_iff.1 hc
  intro x hx
  obtain ⟨k, hk, rfl⟩ := List.mem_iff_getElem.1 hx
  have hle := curve_entry_mono hc (show k ≤ 64 by omega) le_rfl
  rw [hlast, List.getD_eq_getElem _ _ hk] at hle
  unfold fits2
  omega

theorem Image.table_fits (sel : Nat) (hs : sel ≤ 4) :
    (m.tables.table sel).length = 257 ∧ ∀ x ∈ m.tables.table sel, fits2 x := by
  obtain ⟨⟨hlen, hle⟩, -⟩ := Image.lawful_tables hm sel hs
  refine ⟨hlen, fun x hx => ?_⟩
  have := hle x hx
  unfold tableTop at this
  unfold fits2
  split at this <;> omega

theorem Image.bandEnd_fits {sl : Slot} {q : StoredSeam} (hq : m.seams.get sl = some q) : fits2 q.geo.b := by
  have hplan : (m.seams.get sl).map (·.geo) = some q.geo := by rw [hq]; rfl
  obtain ⟨hin, -⟩ := seamsKeep_iff.1 (Image.lawful_seams hm) sl q.geo hplan
  have htile := ((SeamGeometry.inTiles_iff _ _).1 hin).1
  obtain ⟨-, -, hx, hy⟩ := (Tile.ok_iff _).1 (hm.2.1 q.geo.falling).1
  unfold SeamGeometry.inTile at htile
  unfold fits2
  split at htile <;> (rw [decide_eq_true_eq] at htile; omega)

theorem Image.encode_fits (k : Idx4) :
    (m.tables.encode.get k).length = 257 ∧ ∀ x ∈ m.tables.encode.get k, fits2 x := by
  cases k
  exacts [Image.table_fits hm 1 (by decide), Image.table_fits hm 2 (by decide), Image.table_fits hm 3 (by decide),
    Image.table_fits hm 4 (by decide)]

theorem Image.encodeBytes_length (k : Idx4) : (entryBytes (m.tables.encode.get k)).length = 514 := by
  rw [entryBytes_length, (Image.encode_fits hm k).1]

theorem Image.tablePart_length : m.tablePart.length = 2572 := by
  have hdecode : m.tables.decode.length = 257 := (Image.table_fits hm 0 (by decide)).1
  simp only [Image.tablePart, List.length_append, entryBytes_length,
    Quad.length_flatMap (Image.encodeBytes_length hm), hdecode, length_be2]

theorem Image.curveBytes_length (k : Idx4) : (entryBytes (m.curves.c4to7.get k)).length = 130 := by
  rw [entryBytes_length]
  cases k
  exacts [congrArg (2 * ·) (Image.curve_length hm 4 (by decide) (by decide)),
    congrArg (2 * ·) (Image.curve_length hm 5 (by decide) (by decide)),
    congrArg (2 * ·) (Image.curve_length hm 6 (by decide) (by decide)),
    congrArg (2 * ·) (Image.curve_length hm 7 (by decide) (by decide))]

theorem Image.body_length : m.body.length = bodyLength m.setup.nodes := by
  have hc3 : m.curves.c3.length = 65 := Image.curve_length hm 3 (by decide) (by decide)
  rw [Image.body_eq]
  simp only [Image.bankPart, Image.seamPart, Image.curvePart, List.length_append, setupBytes_length,
    Quad.length_flatMap (fun k => recordBytes_length (m.heads.get k)), Quad.length_flatMap (Image.bank_length hm),
    Quad.length_flatMap (fun k => slotBytes_length (m.seams.get k)), entryBytes_length, hc3,
    Quad.length_flatMap (Image.curveBytes_length hm), Image.tablePart_length hm, bodyLength]
  omega

/-! ## Where each part stands -/

theorem Image.drop_seams : m.bankPart.drop (28 * m.setup.nodes) = m.seamPart := by
  refine List.drop_left' ((Quad.length_flatMap (Image.bank_length hm)).trans ?_)
  omega

theorem Image.drop_curves : m.bankPart.drop (28 * m.setup.nodes + 48) = m.curvePart := by
  rw [← List.drop_drop, Image.drop_seams hm]
  exact List.drop_left' (Quad.length_flatMap fun k => slotBytes_length (m.seams.get k))

theorem Image.drop_tables : m.curvePart.drop 650 = m.tablePart := by
  have hc3 : (entryBytes m.curves.c3).length = 130 := by
    rw [entryBytes_length]
    exact congrArg (2 * ·) (Image.curve_length hm 3 (by decide) (by decide))
  rw [show (650 : Nat) = 130 + 520 from rfl, ← List.drop_drop, Image.curvePart, List.drop_left' hc3]
  exact List.drop_left' (Quad.length_flatMap (Image.curveBytes_length hm))

/-! ## Each part reads back -/

theorem Image.read_heads : quad? (fun h => readRecord (m.body.drop (7 + 37 * h.toNat))) = some m.heads := by
  refine quad?_of_get fun h => ?_
  obtain ⟨r, hr⟩ := Quad.drop_flatMap (fun k => recordBytes_length (m.heads.get k)) m.bankPart h
  rw [← List.drop_drop, Image.drop_heads, hr, readRecord_read r (hm.2.1 h)]

theorem Image.read_seams :
    quad? (fun sl => readSlot (m.body.drop (155 + 28 * m.setup.nodes + 12 * sl.toNat))) = some m.seams := by
  refine quad?_of_get fun sl => ?_
  obtain ⟨r, hr⟩ := Quad.drop_flatMap (fun k => slotBytes_length (m.seams.get k)) m.curvePart sl
  rw [← List.drop_drop, ← List.drop_drop, Image.drop_banks, Image.drop_seams hm, Image.seamPart, hr]
  refine readSlot_read r fun q hq => ?_
  obtain ⟨hshaped, hout, hin⟩ := hm.2.2.2.1 sl q hq
  exact ⟨hshaped, Image.bandEnd_fits hm hq, hout, hin⟩

theorem Image.read_bank (h : Head) :
    readNodes m.setup.nodes (m.bankPart.drop (7 * m.setup.nodes * h.toNat)) = m.banks.get h := by
  obtain ⟨hlen, hok⟩ := Image.lawful_banks hm h
  obtain ⟨r, hr⟩ := Quad.drop_flatMap (Image.bank_length hm) m.seamPart h
  rw [Image.bankPart, hr, ← hlen, readNodes_read _ hok]

theorem Image.read_c3 : readEntries 65 m.curvePart = m.curves.c3 :=
  readEntries_of_length (Image.curve_length hm 3 (by decide) (by decide))
    (Image.curve_fits hm 3 (by decide) (by decide)) _

theorem Image.read_c4to7 (k : Idx4) : readEntries 65 (m.curvePart.drop (130 * (k.toNat + 1))) = m.curves.c4to7.get k := by
  have hc3 : (entryBytes m.curves.c3).length = 130 := by
    rw [entryBytes_length]
    exact congrArg (2 * ·) (Image.curve_length hm 3 (by decide) (by decide))
  have hcurve : (m.curves.c4to7.get k).length = 65 ∧ ∀ x ∈ m.curves.c4to7.get k, fits2 x := by
    cases k
    exacts [⟨Image.curve_length hm 4 (by decide) (by decide), Image.curve_fits hm 4 (by decide) (by decide)⟩,
      ⟨Image.curve_length hm 5 (by decide) (by decide), Image.curve_fits hm 5 (by decide) (by decide)⟩,
      ⟨Image.curve_length hm 6 (by decide) (by decide), Image.curve_fits hm 6 (by decide) (by decide)⟩,
      ⟨Image.curve_length hm 7 (by decide) (by decide), Image.curve_fits hm 7 (by decide) (by decide)⟩]
  obtain ⟨r, hr⟩ := Quad.drop_flatMap (Image.curveBytes_length hm) m.tablePart k
  rw [Nat.mul_add, Nat.mul_one, Nat.add_comm, ← List.drop_drop, Image.curvePart, List.drop_left' hc3, hr,
    readEntries_of_length hcurve.1 hcurve.2]

theorem Image.read_decode : readEntries 257 m.tablePart = m.tables.decode :=
  readEntries_of_length (Image.table_fits hm 0 (by decide)).1 (Image.table_fits hm 0 (by decide)).2 _

theorem Image.drop_decode : m.tablePart.drop 514 = m.tables.encode.toList.flatMap entryBytes ++ be2 m.holdTime := by
  refine List.drop_left' ?_
  rw [entryBytes_length]
  exact congrArg (2 * ·) (Image.table_fits hm 0 (by decide)).1

theorem Image.read_encode (k : Idx4) :
    readEntries 257 (m.tablePart.drop (514 * (k.toNat + 1))) = m.tables.encode.get k := by
  obtain ⟨r, hr⟩ := Quad.drop_flatMap (Image.encodeBytes_length hm) (be2 m.holdTime) k
  obtain ⟨hlen, hfits⟩ := Image.encode_fits hm k
  rw [Nat.mul_add, Nat.mul_one, Nat.add_comm, ← List.drop_drop, Image.drop_decode hm, hr,
    readEntries_of_length hlen hfits]

theorem Image.read_holdTime : u16 (m.tablePart.drop 2570) 0 = m.holdTime := by
  have hhold := Image.lawful_holdTime hm
  rw [show (2570 : Nat) = 514 + 2056 from rfl, ← List.drop_drop, Image.drop_decode hm,
    List.drop_left' (Quad.length_flatMap (Image.encodeBytes_length hm))]
  exact u16_behind [] [] (by unfold fits2; omega)

/-- The items read from the body are the image's. -/
theorem Image.readItems_body : readItems m.setup m.heads m.seams m.body = m := by
  have hbanks : (Quad.ofFn fun h => readNodes m.setup.nodes (m.bankPart.drop (7 * m.setup.nodes * h.toNat))) = m.banks :=
    Quad.ext_get fun h => by rw [Quad.get_ofFn, Image.read_bank hm]
  have hcurves : (Quad.ofFn fun k => readEntries 65 (m.curvePart.drop (130 * (k.toNat + 1)))) = m.curves.c4to7 :=
    Quad.ext_get fun k => by rw [Quad.get_ofFn, Image.read_c4to7 hm]
  have htables : (Quad.ofFn fun k => readEntries 257 (m.tablePart.drop (514 * (k.toNat + 1)))) = m.tables.encode :=
    Quad.ext_get fun k => by rw [Quad.get_ofFn, Image.read_encode hm]
  simp only [readItems, Image.drop_banks, Image.drop_curves hm, Image.drop_tables hm, hbanks, Image.read_c3 hm, hcurves,
    Image.read_decode hm, htables, Image.read_holdTime hm]

end Parts

end Sys2Proof.Machine

namespace Sys2Proof

open Sys2Proof.Machine

/-- Settles O56: every part of the body stands at its offset and reads back. -/
theorem imageRoundTrip : Obligations.ImageRoundTrip := by
  intro m hm
  have hsetup : setup? m.body = some m.setup := by
    rw [Image.body_eq]
    exact setup?_read _ hm.1
  have hok : m.ok = true := hm.2.2.2.2.2
  simp only [readImage, hsetup, Image.body_length hm, if_true, Image.read_heads hm, Image.read_seams hm,
    Image.readItems_body hm, hok]

end Sys2Proof

/-! PROVES. LAYOUT_APPLY: the arithmetic of the presets, and what each of its three steps leaves. -/

namespace Sys2Proof.Machine

/-! ## The six presets -/

/-- The places of a preset lie in its grid, and its heads and slots are different. -/
def Preset.tidy (q : Preset) : Bool :=
  q.heads.all (fun x => decide (x.column < q.nc ∧ x.row < q.nr)) && decide ((q.heads.map (·.head)).Nodup) &&
    decide ((q.seams.map (·.slot)).Nodup)

theorem presets_tidy : ∀ id ∈ List.range 6, ((preset? id).all Preset.tidy) = true := by decide

theorem Preset.tidy_of {id : Nat} {q : Preset} (h : preset? id = some q) :
    (∀ x ∈ q.heads, x.column < q.nc ∧ x.row < q.nr) ∧ (q.heads.map (·.head)).Nodup ∧ (q.seams.map (·.slot)).Nodup := by
  have htidy := presets_tidy id (List.mem_range.2 (preset?_lt h))
  rw [h, Option.all_some] at htidy
  simp only [Preset.tidy, Bool.and_eq_true, List.all_eq_true, decide_eq_true_eq] at htidy
  obtain ⟨⟨hplaces, hheads⟩, hslots⟩ := htidy
  exact ⟨hplaces, hheads, hslots⟩

/-- A used head has the place of its own entry. -/
theorem Preset.place?_of_mem {q : Preset} (hd : (q.heads.map (·.head)).Nodup) {x : PresetHead} (hx : x ∈ q.heads) :
    q.place? x.head = some x := by
  unfold Preset.place?
  generalize q.heads = l at hd hx
  induction l with
  | nil => cases hx
  | cons y l ih =>
    rw [List.map_cons, List.nodup_cons] at hd
    rcases List.mem_cons.1 hx with rfl | hx
    · simp
    · have hne : y.head ≠ x.head := fun e => hd.1 (e ▸ List.mem_map_of_mem hx)
      rw [List.find?_cons_of_neg (by simpa using hne)]
      exact ih hd.2 hx

theorem Preset.place?_eq_none {q : Preset} {h : Head} : q.place? h = none ↔ ¬ ∃ x ∈ q.heads, x.head = h := by
  simp [Preset.place?]

theorem Preset.place?_isSome {q : Preset} {h : Head} : (q.place? h).isSome = true ↔ ∃ x ∈ q.heads, x.head = h := by
  rw [← not_iff_not, ← Preset.place?_eq_none, Bool.not_eq_true, Option.isSome_eq_false_iff, Option.isNone_iff_eq_none]

/-- The extent of a place by its arithmetic (R152). -/
theorem extent_eq {lc n p m : Nat} (hm : m < n) : extent lc n p m =
    (if n = 1 then 0 else m * tileStep lc n p,
      if m = n - 1 then lc - 1 else m * tileStep lc n p + tileLength lc n p - 1) := by
  unfold extent
  by_cases h1 : n = 1
  · rw [if_pos h1, if_pos h1, if_pos (by omega)]
  · rw [if_neg h1, if_neg h1]

theorem HeadMesh.blocksLayout_iff (m : HeadMesh) :
    m.blocksLayout = true ↔ m.commitPending = true ∨ ∃ k n, m.claim = some ⟨.head k, n⟩ := by
  have hclaim : m.claimedByHead = true ↔ ∃ k n, m.claim = some ⟨.head k, n⟩ := by
    unfold HeadMesh.claimedByHead
    cases hc : m.claim with
    | none => simp
    | some c =>
      obtain ⟨owner, n⟩ := c
      cases owner <;> simp
  rw [HeadMesh.blocksLayout, Bool.or_eq_true, hclaim, or_comm]

/-! ## Step one: the head records -/

section Heads

variable (q : Preset) (p : Nat) (s : State)

theorem State.writeHead_monitor (h : Head) (r : HeadRecord) : (s.writeHead h r).monitor = s.monitor.set h
    (if r.enabled = (s.heads.get h).enabled then s.monitor.get h
      else { s.monitor.get h with contributes := contribution r.enabled (s.monitor.get h) }) := by
  unfold State.writeHead
  split
  · simp
  · rw [State.rederive_monitor]
    simp [State.setHead]

theorem State.layHeads_monitor (h : Head) : (s.layHeads q p).monitor.get h =
    if (q.record p h (s.heads.get h)).enabled = (s.heads.get h).enabled then s.monitor.get h
    else { s.monitor.get h with
      contributes := contribution (q.record p h (s.heads.get h)).enabled (s.monitor.get h) } := by
  rw [State.layHeads_eq]
  cases h <;> simp [forEach, State.layHead, State.writeHead_monitor, State.writeHead_heads]

theorem State.layHeads_noticed : s.noticed (s.layHeads q p) fun k =>
    ∃ h, (s.layHeads q p).contributes h ≠ s.contributes h ∧ k = 8 + h.toNat := by
  have hstep : ∀ (h : Head) (u : State), (∀ sl, u.seams.get sl = none) →
      State.Announces h u (u.layHead q p h) ∧ ∀ sl, (u.layHead q p h).seams.get sl = none := by
    intro h u hu
    refine ⟨?_, State.writeHead_empty h _ hu⟩
    have hcontributes : ∀ r k, (u.setHead h r).contributes k = u.contributes k := fun r k => by simp [State.contributes]
    unfold State.layHead State.writeHead
    split
    · exact ⟨fun k _ => hcontributes _ k, State.noticed_congr (State.noticed_of_eq (by simp)) fun k _ => by
        simp [hcontributes]⟩
    · exact State.Announces.rederive (s := u.setHead h _) h (by simpa using hu)
  exact State.forEach_announces hstep (s := { s with seams := Quad.const none }) fun sl => by simp

theorem State.layHeads_frame : s.layHeads q p = { s with
    heads := (s.layHeads q p).heads
    monitor := (s.layHeads q p).monitor
    seams := (s.layHeads q p).seams
    ports := (s.layHeads q p).ports } := by
  apply State.eq_of_fields <;> simp [State.layHeads, forEach]

/-! ## Step two: the seams -/

/-- The seams of a preset, placed one after another. -/
theorem State.laySeams_frame : s.laySeams q p = { s with seams := (s.laySeams q p).seams } := by
  unfold State.laySeams
  induction q.seams generalizing s with
  | nil => rfl
  | cons x l ih => exact (ih _).trans rfl

theorem State.placed_get (l : List PresetSeam) (hd : (l.map (·.slot)).Nodup) :
    (∀ x ∈ l, (l.foldl (fun s x => s.placeSeam x.slot (q.geometry p x) .auto 2 48) s).seams.get x.slot =
      some (Seam.place (q.geometry p x) .auto 2 48 (s.contributes (q.geometry p x).falling)
        (s.contributes (q.geometry p x).rising))) ∧
    ∀ sl, (∀ x ∈ l, x.slot ≠ sl) →
      (l.foldl (fun s x => s.placeSeam x.slot (q.geometry p x) .auto 2 48) s).seams.get sl = s.seams.get sl := by
  induction l generalizing s with
  | nil => exact ⟨nofun, fun _ _ => rfl⟩
  | cons y l ih =>
    rw [List.map_cons, List.nodup_cons] at hd
    obtain ⟨hnew, hrest⟩ := ih (s.placeSeam y.slot (q.geometry p y) .auto 2 48) hd.2
    refine ⟨fun x hx => ?_, fun sl hsl => ?_⟩
    · rcases List.mem_cons.1 hx with rfl | hx
      · refine (hrest x.slot fun z hz e => hd.1 (e ▸ List.mem_map_of_mem hz)).trans ?_
        exact Quad.get_set_same _ _ _
      · exact hnew x hx
    · refine (hrest sl fun z hz => hsl z (List.mem_cons_of_mem _ hz)).trans ?_
      exact Quad.get_set_ne _ _ (hsl y (List.mem_cons_self ..)).symm

end Heads

/-! ## Step three: the meshes -/

section Meshes

variable (q : Preset) (s : State)

/-- What the Mesh Store leaves of a used head with no save in flight (R158). -/
def State.laid (h : Head) (s : State) : HeadMesh :=
  let flat := flatMesh s.setup (s.heads.get h).tile
  if s.running = true ∨ s.saving = true then { s.mesh.get h with staged := flat, claim := none, commitPending := true }
  else { s.mesh.get h with active := flat, staged := flat, claim := none, commitPending := false }

theorem State.layMesh_get (h : Head) : (s.layMesh h).mesh.get h = s.laid h := by
  unfold State.layMesh State.laid
  dsimp only
  rw [State.commit_get, if_pos rfl]
  simp only [Quad.get_set_same]
  rfl

theorem State.layMesh_noticed (h : Head) (hs : s.saving = false) :
    s.noticed (s.layMesh h) fun k => s.running = false ∧ k = h.toNat := by
  have hcond : ∀ m, ((({ s with mesh := m } : State).running || ({ s with mesh := m } : State).saving) = true) ↔
      s.running = true := fun m => by
    rw [Bool.or_eq_true]
    exact or_iff_left fun e => Bool.false_ne_true (hs.symm.trans e)
  unfold State.layMesh State.commit
  dsimp only
  by_cases hr : s.running = true
  · rw [if_pos ((hcond _).2 hr)]
    exact State.noticed_congr (State.noticed_of_eq rfl) fun k _ => by simp [hr]
  · rw [if_neg (mt (hcond _).1 hr)]
    exact State.noticed_congr (State.land_noticed h _) fun k _ => by simp [hr]

theorem State.layMesh_frame (h : Head) : s.layMesh h =
    { s with mesh := (s.layMesh h).mesh, ports := (s.layMesh h).ports } := by
  apply State.eq_of_fields <;> simp [State.layMesh]

/-- The Mesh Store's step of the apply on one head. -/
def State.layStep (h : Head) (s : State) : State := if (q.place? h).isSome then s.layMesh h else s

theorem State.layMeshes_eq : s.layMeshes q = forEach (State.layStep q) s := rfl

theorem State.layStep_frame (h : Head) : s.layStep q h =
    { s with mesh := (s.layStep q h).mesh, ports := (s.layStep q h).ports } := by
  unfold State.layStep
  split
  · exact s.layMesh_frame h
  · rfl

theorem State.layStep_running (h : Head) : (s.layStep q h).running = s.running := by
  rw [State.layStep_frame]
  rfl

theorem State.layStep_saving (h : Head) : (s.layStep q h).saving = s.saving := by
  rw [State.layStep_frame]
  rfl

theorem State.layStep_other {h k : Head} (hk : k ≠ h) : (s.layStep q h).mesh.get k = s.mesh.get k := by
  unfold State.layStep
  split
  · exact State.layMesh_other _ hk
  · rfl

theorem State.layStep_own {h : Head} (hu : (q.place? h).isSome = true) : (s.layStep q h).mesh.get h = s.laid h := by
  rw [State.layStep, if_pos hu, State.layMesh_get]

/-- A step on another head leaves what the Mesh Store will make of this one. -/
theorem State.layStep_laid {h k : Head} (hk : k ≠ h) : (s.layStep q h).laid k = s.laid k := by
  unfold State.laid
  rw [State.layStep_other q s hk, State.layStep_running, State.layStep_saving, State.layStep_frame]

theorem State.layStep_noticed (h : Head) (hs : s.saving = false) : s.noticed (s.layStep q h) fun k =>
    s.running = false ∧ (q.place? h).isSome = true ∧ k = h.toNat := by
  unfold State.layStep
  split
  · rename_i hu
    exact State.noticed_congr (s.layMesh_noticed h hs) fun k _ => by simp [hu]
  · rename_i hu
    exact State.noticed_congr (State.noticed_of_eq rfl) fun k _ => by simp [hu]

theorem State.layMeshes_frame : s.layMeshes q =
    { s with mesh := (s.layMeshes q).mesh, ports := (s.layMeshes q).ports } := by
  rw [State.layMeshes_eq]
  simp only [forEach]
  rw [State.layStep_frame, State.layStep_frame, State.layStep_frame, State.layStep_frame]

theorem State.layMeshes_used {h : Head} (hu : (q.place? h).isSome = true) : (s.layMeshes q).mesh.get h = s.laid h := by
  rw [State.layMeshes_eq]
  simp only [forEach]
  cases h
  · rw [State.layStep_other _ _ (by decide), State.layStep_other _ _ (by decide), State.layStep_other _ _ (by decide),
      State.layStep_own _ _ hu]
  · rw [State.layStep_other _ _ (by decide), State.layStep_other _ _ (by decide), State.layStep_own _ _ hu,
      State.layStep_laid _ _ (by decide)]
  · rw [State.layStep_other _ _ (by decide), State.layStep_own _ _ hu, State.layStep_laid _ _ (by decide),
      State.layStep_laid _ _ (by decide)]
  · rw [State.layStep_own _ _ hu, State.layStep_laid _ _ (by decide), State.layStep_laid _ _ (by decide),
      State.layStep_laid _ _ (by decide)]

theorem State.layMeshes_noticed (hs : s.saving = false) : s.noticed (s.layMeshes q) fun k =>
    s.running = false ∧ ∃ h, (q.place? h).isSome = true ∧ k = h.toNat := by
  have n0 := s.layStep_noticed q .i0 hs
  have n1 := (s.layStep q .i0).layStep_noticed q .i1 (by simpa only [State.layStep_saving] using hs)
  have n2 := ((s.layStep q .i0).layStep q .i1).layStep_noticed q .i2 (by simpa only [State.layStep_saving] using hs)
  have n3 := (((s.layStep q .i0).layStep q .i1).layStep q .i2).layStep_noticed q .i3
    (by simpa only [State.layStep_saving] using hs)
  simp only [State.layStep_running] at n1 n2 n3
  refine State.noticed_congr (State.noticed_trans (State.noticed_trans (State.noticed_trans n0 n1) n2) n3) fun k _ => ?_
  constructor
  · rintro (((⟨hr, h⟩ | ⟨hr, h⟩) | ⟨hr, h⟩) | ⟨hr, h⟩)
    exacts [⟨hr, _, h⟩, ⟨hr, _, h⟩, ⟨hr, _, h⟩, ⟨hr, _, h⟩]
  · rintro ⟨hr, h, hh⟩
    cases h
    exacts [.inl (.inl (.inl ⟨hr, hh⟩)), .inl (.inl (.inr ⟨hr, hh⟩)), .inl (.inr ⟨hr, hh⟩), .inr ⟨hr, hh⟩]

end Meshes

end Sys2Proof.Machine

namespace Sys2Proof

open Sys2Proof.Machine

/-- Settles O51: step by step of the apply. -/
theorem layoutApply : Obligations.LayoutApply := by
  intro id overlap tag s hid ho hin hsave
  obtain ⟨e0, e1⟩ := layout_fields hid ho
  have hrule : ∀ q, preset? id = some q → answerLayoutApply .ap (be1 id ++ be1 overlap) s =
      if (q.heads.any fun x => (s.mesh.get x.head).blocksLayout) = true then refuse s .busy
      else ⟨((s.layHeads q (clampOverlap overlap)).laySeams q (clampOverlap overlap)).layMeshes q,
        if clampOverlap overlap = overlap then .done else .adjusted, be1 id ++ be1 (clampOverlap overlap)⟩ := by
    intro q hq
    simp only [answerLayoutApply, hsave, e0, e1, hq, Bool.false_eq_true, if_false]
  refine ⟨fun h5 => State.request_refused hin rfl ?_ rfl, fun h5 => ?_⟩
  · simp only [answerLayoutApply, hsave, e0, preset?_eq_none h5, Bool.false_eq_true, if_false]
  obtain ⟨q, hq⟩ := preset?_of_le h5
  obtain ⟨hplaces, hheads, hslots⟩ := Preset.tidy_of hq
  refine ⟨q, hq, ?_⟩
  intro p span pitch first last tile band used blocked
  have htile : ∀ x ∈ q.heads, q.tile p x = tile x := fun x hx => by
    obtain ⟨hc, hr⟩ := hplaces x hx
    simp only [Preset.tile, extent_eq hc, extent_eq hr]
    rfl
  have hband : ∀ x, q.geometry p x = band x := fun x => by
    obtain ⟨slot, orientation, falling, rising, place⟩ := x
    cases orientation <;> rfl
  have hblocked : (q.heads.any fun x => (s.mesh.get x.head).blocksLayout) = true ↔ blocked := by
    simp only [List.any_eq_true, HeadMesh.blocksLayout_iff]
    rfl
  have hp : clampOverlap overlap = p := rfl
  clear_value p tile band
  rw [hp] at hrule
  refine ⟨fun hb => ?_, fun hb => ?_⟩
  · exact State.request_refused hin rfl ((hrule q hq).trans (if_pos (hblocked.2 hb))) rfl
  let u := s.layHeads q p
  let v := u.laySeams q p
  let t := v.layMeshes q
  have hv : v = { u with seams := v.seams } := State.laySeams_frame q p u
  have ht : t = { v with mesh := t.mesh, ports := t.ports } := State.layMeshes_frame q v
  have hu : u = { s with heads := u.heads, monitor := u.monitor, seams := u.seams, ports := u.ports } :=
    State.layHeads_frame q p s
  have hheads' : ∀ h, t.heads.get h = q.record p h (s.heads.get h) := fun h => by
    rw [ht, hv]
    exact State.layHeads_heads q p s h
  have hmonitor : t.monitor = u.monitor := by rw [ht, hv]
  have hcontributes : ∀ h, t.contributes h = u.contributes h := fun h => by rw [State.contributes, hmonitor]; rfl
  have hrunning : v.running = s.running := by rw [hv, hu]; rfl
  have hsaving : v.saving = false := by rw [hv, hu]; exact hsave
  have hmesh : v.mesh = s.mesh := by rw [hv, hu]
  have hsetup : v.setup = s.setup := by rw [hv, hu]
  refine ⟨t, State.request_answered hin rfl ((hrule q hq).trans (if_neg (mt hblocked.1 hb))) rfl, fun x hx => ?_,
    fun h hh => ?_, fun h => ?_, fun x hx => ?_, fun sl hsl => ?_, ?_, ?_⟩
  · have hplace := Preset.place?_of_mem hheads hx
    have hrecord : t.heads.get x.head = { s.heads.get x.head with enabled := true, tile := tile x } := by
      rw [hheads', Preset.record, hplace, ← htile x hx]
    refine ⟨hrecord, ?_⟩
    have hvtile : (v.heads.get x.head).tile = tile x := by
      have : v.heads = t.heads := by rw [ht]
      rw [this, hrecord]
    have hpending : (s.mesh.get x.head).commitPending = false :=
      Bool.eq_false_iff.2 fun e => hb ⟨x, hx, .inl e⟩
    intro flat
    rw [State.layMeshes_used q v (by rw [hplace]; rfl), State.laid, hvtile, hrunning, hsaving, hmesh, hsetup]
    by_cases hr : s.running = true
    · rw [if_pos (.inl hr), if_pos hr]
    · rw [if_neg (by simp [hr]), if_neg hr, ← hpending]
  · have hnone := Preset.place?_eq_none.2 hh
    refine ⟨?_, ?_⟩
    · rw [hheads', Preset.record, hnone]
    · rw [State.layMeshes_unused _ hnone, hmesh]
  · intro m
    rw [hmonitor, State.layHeads_monitor, hheads']
    exact ⟨fun e => if_pos e, fun e => by rw [if_neg e, contribution_eq]⟩
  · refine ⟨_, ?_, rfl⟩
    have hseams : t.seams = v.seams := by rw [ht]
    rw [hseams, ← hband, hcontributes, hcontributes]
    exact (State.placed_get q p u q.seams hslots).1 x hx
  · have hseams : t.seams = v.seams := by rw [ht]
    rw [hseams]
    exact ((State.placed_get q p u q.seams hslots).2 sl hsl).trans (State.layHeads_empty q p s sl)
  · simp only [hcontributes]
    have hlaid := State.layMeshes_noticed q v hsaving
    have hports : v.ports = u.ports := by rw [hv]
    have hmeshes : u.noticed t fun k => v.running = false ∧ ∃ h, (q.place? h).isSome = true ∧ k = h.toNat :=
        fun port => by
      rw [← hports]
      exact hlaid port
    refine State.noticed_congr (State.noticed_trans (State.layHeads_noticed q p s) hmeshes) fun k _ => ?_
    simp only [hrunning, Preset.place?_isSome]
    exact Iff.rfl
  · rw [ht, hv, hu]

end Sys2Proof

/-! PROVES. The four weights at a crossing of two matched pairs of bands. -/

namespace Sys2Proof.Machine

/-- The part of a position along the axis of a seam lies in its band. -/
def SeamGeometry.covers (g : SeamGeometry) (q : Position) : Prop :=
  16 * (g.a : Int) ≤ q.along g.orientation ∧ q.along g.orientation ≤ 16 * g.b

/-- At a crossing of the bands of two seams that name a head, and of no other, its weight is the truncated product. -/
theorem FrameView.weight_at_crossing {w : FrameView} {q : Position} {sl sl' : Slot} {g g' : SeamGeometry}
    {k k' : SeamLook} (hne : sl ≠ sl') (hg : w.geometry.get sl = some g) (hg' : w.geometry.get sl' = some g')
    (hk : w.looks.get sl = some k) (hk' : w.looks.get sl' = some k') (hname : g.names w.head = true)
    (hname' : g'.names w.head = true) (hin : g.covers q) (hin' : g'.covers q)
    (hrest : ∀ i, i ≠ sl → i ≠ sl' → ∀ x, w.geometry.get i = some x → x.names w.head = false) :
    w.weight q = g.factor k w.curves w.head (q.along g.orientation) *
      g'.factor k' w.curves w.head (q.along g'.orientation) / 4096 := by
  refine FrameView.weight_of_two hne (FrameView.slotFactor_eq_some.2 ⟨g, k, hg, hk, hname, hin.1, hin.2, rfl⟩)
    (FrameView.slotFactor_eq_some.2 ⟨g', k', hg', hk', hname', hin'.1, hin'.2, rfl⟩) fun i hi hi' => ?_
  refine Option.eq_none_iff_forall_ne_some.2 fun f hf => ?_
  obtain ⟨x, -, hx, -, hnames, -⟩ := FrameView.slotFactor_eq_some.1 hf
  exact Bool.false_ne_true ((hrest i hi hi' x hx).symm.trans hnames)

/-- The four products of two pairs that sum to 4,096, each truncated, lose less than one each (7.11). -/
theorem truncated_products {r r' : Nat} (hr : r ≤ 4096) (hr' : r' ≤ 4096) :
    4093 ≤ (4096 - r) * (4096 - r') / 4096 + r * (4096 - r') / 4096 + (4096 - r) * r' / 4096 + r * r' / 4096 ∧
      (4096 - r) * (4096 - r') / 4096 + r * (4096 - r') / 4096 + (4096 - r) * r' / 4096 + r * r' / 4096 ≤ 4096 := by
  have hsum : (4096 - r) * (4096 - r') + r * (4096 - r') + (4096 - r) * r' + r * r' = 4096 * 4096 := by
    obtain ⟨m, hm⟩ := Nat.exists_eq_add_of_le hr
    obtain ⟨m', hm'⟩ := Nat.exists_eq_add_of_le hr'
    rw [show 4096 - r = m by omega, show 4096 - r' = m' by omega]
    calc m * m' + r * m' + m * r' + r * r' = (r + m) * (r' + m') := by ring
      _ = 4096 * 4096 := by rw [← hm, ← hm']
  omega

end Sys2Proof.Machine

namespace Sys2Proof

open Sys2Proof.Machine

/-- Settles O60: each head's weight is the product of its parts of the two seams. -/
theorem cornerWeights : Obligations.CornerWeights := by
  intro a b a' b' c c' kv kh curves q view v h hview hcurves hbands hfades hin
  obtain ⟨hc, hc'⟩ := hcurves
  obtain ⟨hab, -, hab', -⟩ := hbands
  obtain ⟨hu, hu', hv, hv'⟩ := hin
  let r := kv.risingFactor ((v .i0 .i1).ramp curves q.u)
  let r' := kh.risingFactor ((h .i0 .i2).ramp curves q.v)
  have hr : r ≤ 4096 := SeamLook.risingFactor_le (SeamGeometry.ramp_le (g := v .i0 .i1) hc hab hu') hfades.1
  have hr' : r' ≤ 4096 := SeamLook.risingFactor_le (SeamGeometry.ramp_le (g := h .i0 .i2) hc' hab' hv') hfades.2
  have hpart : ∀ x y i, (v x y).factor kv curves i q.u = if i = y then r else 4096 - r := fun x y i => by
    by_cases e : i = y
    · rw [if_pos e, e]
      exact (v x y).factor_rising kv curves q.u
    · rw [if_neg e]
      exact SeamGeometry.factor_of_ne_rising (g := v x y) e kv curves q.u
  have hpart' : ∀ x y i, (h x y).factor kh curves i q.v = if i = y then r' else 4096 - r' := fun x y i => by
    by_cases e : i = y
    · rw [if_pos e, e]
      exact (h x y).factor_rising kh curves q.v
    · rw [if_neg e]
      exact SeamGeometry.factor_of_ne_rising (g := h x y) e kh curves q.v
  have hweight : ∀ (i x y x' y' : Head) (sl sl' : Slot), sl ≠ sl' →
      (view i).geometry.get sl = some (v x y) → (view i).geometry.get sl' = some (h x' y') →
      (view i).looks.get sl = some kv → (view i).looks.get sl' = some kh → (v x y).names i = true →
      (h x' y').names i = true →
      (∀ k, k ≠ sl → k ≠ sl' → ∀ g, (view i).geometry.get k = some g → g.names i = false) →
      (view i).weight q = (if i = y then r else 4096 - r) * (if i = y' then r' else 4096 - r') / 4096 := by
    intro i x y x' y' sl sl' hne hg hg' hk hk' hn hn' hrest
    obtain ⟨hhead, hcurve, -, -⟩ := hview i
    rw [FrameView.weight_at_crossing hne hg hg' hk hk' (by rwa [hhead]) (by rwa [hhead]) ⟨hu, hu'⟩ ⟨hv, hv'⟩
      (by rwa [hhead]), hhead, hcurve, ← hpart x y i, ← hpart' x' y' i]
    rfl
  have hgeo := fun i => (hview i).2.2.1
  have hlook := fun i => (hview i).2.2.2
  have w0 : (view .i0).weight q = (4096 - r) * (4096 - r') / 4096 := by
    refine hweight .i0 .i0 .i1 .i0 .i2 .i0 .i2 (by decide) (by rw [hgeo]; rfl) (by rw [hgeo]; rfl) (by rw [hlook]; rfl)
      (by rw [hlook]; rfl) rfl rfl fun k h0 h2 g hg => ?_
    rw [hgeo] at hg
    cases k
    exacts [absurd rfl h0, by cases hg; rfl, absurd rfl h2, by cases hg; rfl]
  have w1 : (view .i1).weight q = r * (4096 - r') / 4096 := by
    refine hweight .i1 .i0 .i1 .i1 .i3 .i0 .i3 (by decide) (by rw [hgeo]; rfl) (by rw [hgeo]; rfl) (by rw [hlook]; rfl)
      (by rw [hlook]; rfl) rfl rfl fun k h0 h3 g hg => ?_
    rw [hgeo] at hg
    cases k
    exacts [absurd rfl h0, by cases hg; rfl, by cases hg; rfl, absurd rfl h3]
  have w2 : (view .i2).weight q = (4096 - r) * r' / 4096 := by
    refine hweight .i2 .i2 .i3 .i0 .i2 .i1 .i2 (by decide) (by rw [hgeo]; rfl) (by rw [hgeo]; rfl) (by rw [hlook]; rfl)
      (by rw [hlook]; rfl) rfl rfl fun k h1 h2 g hg => ?_
    rw [hgeo] at hg
    cases k
    exacts [by cases hg; rfl, absurd rfl h1, absurd rfl h2, by cases hg; rfl]
  have w3 : (view .i3).weight q = r * r' / 4096 := by
    refine hweight .i3 .i2 .i3 .i1 .i3 .i1 .i3 (by decide) (by rw [hgeo]; rfl) (by rw [hgeo]; rfl) (by rw [hlook]; rfl)
      (by rw [hlook]; rfl) rfl rfl fun k h1 h3 g hg => ?_
    rw [hgeo] at hg
    cases k
    exacts [by cases hg; rfl, absurd rfl h1, by cases hg; rfl, absurd rfl h3]
  rw [w0, w1, w2, w3]
  exact truncated_products hr hr'

end Sys2Proof

/-! PROVES. The pixel computation stage by stage: cell, mean, sample, decode, encode, lift, patterns and raster. -/

namespace Sys2Proof.Machine

/-! ## The cell of a pixel (R102) -/

/-- The cell of a coordinate on an axis with n nodes at steps of s, and the place in it (R102). -/
def inCell (s n x c f : Nat) : Prop := c * s + f = x ∧ c + 1 < n ∧ f ≤ s ∧ (f = s → c + 2 = n)

theorem cellOf_eq {s n x c f : Nat} (hs : 0 < s) (h : inCell s n x c f) : cellOf s n x = (c, f) := by
  obtain ⟨hx, hc, hf, hlast⟩ := h
  rcases Nat.lt_or_ge f s with hlt | hge
  · have hdiv : x / s = c := by
      rw [← hx, Nat.mul_comm, Nat.mul_add_div hs, Nat.div_eq_of_lt hlt, Nat.add_zero]
    have hmod : x % s = f := by
      rw [← hx, Nat.mul_comm, Nat.mul_add_mod, Nat.mod_eq_of_lt hlt]
    rw [cellOf, hdiv, hmod, if_neg (by omega)]
  · have hfs : f = s := le_antisymm hf hge
    have hn := hlast hfs
    have hdiv : x / s = c + 1 := by
      rw [← hx, hfs, Nat.mul_comm, Nat.mul_add_div hs, Nat.div_self hs]
    rw [cellOf, hdiv, if_pos (by omega), hfs]
    exact congrArg (·, s) (by omega)

/-- Every coordinate of the raster lies in a cell. -/
theorem exists_inCell {s w x : Nat} (hs : 0 < s) (hw : 2 ≤ w) (hx : x < w) :
    ∃ c f, inCell s ((w - 1 + (s - 1)) / s + 1) x c f := by
  have hcover : w - 1 ≤ (w - 1 + (s - 1)) / s * s := by
    have hdiv := Nat.lt_div_mul_add (a := w - 1 + (s - 1)) hs
    omega
  have hpos : 1 ≤ (w - 1 + (s - 1)) / s := (Nat.one_le_div_iff hs).2 (by omega)
  generalize (w - 1 + (s - 1)) / s = n at hcover hpos
  have hmod := Nat.mod_lt x hs
  have hsplit := Nat.div_add_mod' x s
  have hle : x / s ≤ n := Nat.div_le_of_le_mul (by rw [Nat.mul_comm]; omega)
  rcases Nat.lt_or_ge (x / s) n with hlt | hge
  · exact ⟨x / s, x % s, hsplit, by omega, hmod.le, fun e => absurd e hmod.ne⟩
  · have hn : x / s = n := le_antisymm hle hge
    refine ⟨n - 1, s, ?_, by omega, le_rfl, fun _ => by omega⟩
    have hwhole : (n - 1) * s + s = n * s := by
      rw [← Nat.succ_mul]
      congr 1
      omega
    rw [hn] at hsplit
    omega

/-! ## The mean of a cell (R103) -/

section Mean

variable {s fx fy : Nat} {c00 c10 c01 c11 : Int}

/-- At the corner of a cell the mean is the node's own value. -/
theorem cellMean_corner (hs : 0 < s) : cellMean s 0 0 c00 c10 c01 c11 = c00 := by
  have hpos : (0 : Int) < ((s * s : Nat) : Int) := by exact_mod_cast Nat.mul_pos hs hs
  have hhalf : ((s * s / 2 : Nat) : Int) < ((s * s : Nat) : Int) := by
    exact_mod_cast Nat.div_lt_self (Nat.mul_pos hs hs) (by decide)
  have hsum : c00 * ((s : Int) - (0 : Nat)) * ((s : Int) - (0 : Nat)) + c10 * (0 : Nat) * ((s : Int) - (0 : Nat)) +
      c01 * ((s : Int) - (0 : Nat)) * (0 : Nat) + c11 * (0 : Nat) * (0 : Nat) + ((s * s / 2 : Nat) : Int) =
      ((s * s / 2 : Nat) : Int) + c00 * ((s * s : Nat) : Int) := by
    push_cast
    ring
  rw [cellMean, hsum, Int.add_mul_ediv_right _ _ hpos.ne', Int.ediv_eq_zero_of_lt (by positivity) hhalf, zero_add]

/-- The mean lies in every range that holds the four values. -/
theorem cellMean_between (hs : 0 < s) (hx : fx ≤ s) (hy : fy ≤ s) {lo hi : Int}
    (h : ∀ c ∈ [c00, c10, c01, c11], lo ≤ c ∧ c ≤ hi) :
    lo ≤ cellMean s fx fy c00 c10 c01 c11 ∧ cellMean s fx fy c00 c10 c01 c11 ≤ hi := by
  simp only [List.forall_mem_cons, List.not_mem_nil, IsEmpty.forall_iff, implies_true, and_true] at h
  obtain ⟨⟨l00, h00⟩, ⟨l10, h10⟩, ⟨l01, h01⟩, l11, h11⟩ := h
  obtain ⟨gx, hgx⟩ := Nat.exists_eq_add_of_le hx
  obtain ⟨gy, hgy⟩ := Nat.exists_eq_add_of_le hy
  have hpos : (0 : Int) < ((s * s : Nat) : Int) := by exact_mod_cast Nat.mul_pos hs hs
  have hhalf : ((s * s / 2 : Nat) : Int) < ((s * s : Nat) : Int) := by
    exact_mod_cast Nat.div_lt_self (Nat.mul_pos hs hs) (by decide)
  have hhalf0 : (0 : Int) ≤ ((s * s / 2 : Nat) : Int) := by positivity
  have ex : (s : Int) - fx = gx := by omega
  have ey : (s : Int) - fy = gy := by omega
  have hsquare : ∀ z : Int, z * ((s * s : Nat) : Int) =
      z * gx * gy + z * fx * gy + z * gx * fy + z * fx * fy := fun z => by
    have : (s : Int) = fx + gx := by omega
    have : (s : Int) = fy + gy := by omega
    push_cast
    calc z * ((s : Int) * s) = z * ((fx + gx) * (fy + gy)) := by rw [← ‹(s : Int) = fx + gx›, ← ‹(s : Int) = fy + gy›]
      _ = _ := by ring
  have hlow : lo * ((s * s : Nat) : Int) ≤ c00 * gx * gy + c10 * fx * gy + c01 * gx * fy + c11 * fx * fy := by
    rw [hsquare]
    gcongr
  have hhigh : c00 * gx * gy + c10 * fx * gy + c01 * gx * fy + c11 * fx * fy ≤ hi * ((s * s : Nat) : Int) := by
    rw [hsquare]
    gcongr
  rw [cellMean, ex, ey]
  refine ⟨(Int.le_ediv_iff_mul_le hpos).2 (by omega), Int.lt_add_one_iff.1 ((Int.ediv_lt_iff_lt_mul hpos).2 ?_)⟩
  rw [add_mul, one_mul]
  omega

end Mean

/-! ## The position of a pixel (R102 to R106) -/

theorem FrameView.position_eq {w : FrameView} {x y i fx j fy : Nat} (hs : 0 < w.s) (hi : inCell w.s w.columns x i fx)
    (hj : inCell w.s w.rows y j fy) : w.position x y =
      let q : Position := ⟨cellMean w.s fx fy (w.node i j).u (w.node (i + 1) j).u (w.node i (j + 1)).u
        (w.node (i + 1) (j + 1)).u, cellMean w.s fx fy (w.node i j).v (w.node (i + 1) j).v (w.node i (j + 1)).v
        (w.node (i + 1) (j + 1)).v⟩
      if ((w.node i j).visible && (w.node (i + 1) j).visible && (w.node i (j + 1)).visible &&
          (w.node (i + 1) (j + 1)).visible) = true ∧ (q.onCanvas && q.inTile w.tile) = true then some q else none := by
  rw [FrameView.position, FrameView.meshPosition, cellOf_eq hs hi, cellOf_eq hs hj]
  dsimp only
  by_cases hv : ((w.node i j).visible && (w.node (i + 1) j).visible && (w.node i (j + 1)).visible &&
      (w.node (i + 1) (j + 1)).visible) = true
  · simp only [hv, if_true, true_and]
  · simp only [hv, Bool.false_eq_true, if_false, false_and]

/-! ## Samples (R107, R108) -/

/-- A rounded mean of four codes with weights that sum to 256 is no greater than the greatest. -/
theorem sampleMean_le {ax ay top c00 c10 c01 c11 : Nat} (hx : ax ≤ 16) (hy : ay ≤ 16) (h00 : c00 ≤ top) (h10 : c10 ≤ top)
    (h01 : c01 ≤ top) (h11 : c11 ≤ top) :
    (c00 * (16 - ax) * (16 - ay) + c10 * ax * (16 - ay) + c01 * (16 - ax) * ay + c11 * ax * ay + 128) / 256 ≤ top := by
  obtain ⟨bx, hbx⟩ := Nat.exists_eq_add_of_le hx
  obtain ⟨yy, hby⟩ := Nat.exists_eq_add_of_le hy
  rw [show 16 - ax = bx by omega, show 16 - ay = yy by omega]
  have hsum : c00 * bx * yy + c10 * ax * yy + c01 * bx * ay + c11 * ax * ay ≤ 256 * top := by
    calc c00 * bx * yy + c10 * ax * yy + c01 * bx * ay + c11 * ax * ay
        ≤ top * bx * yy + top * ax * yy + top * bx * ay + top * ax * ay := by gcongr
      _ = (ax + bx) * (ay + yy) * top := by ring
      _ = 256 * top := by rw [← hbx, ← hby]
  omega

/-- A position on the canvas is sampled inside the frame on an axis of n canvas units. -/
theorem sample_index_lt {n u w i a : Nat} (hn : 0 < n) (hu : u ≤ 16 * (n - 1)) (hw : 1 ≤ w)
    (hi : 16 * i + a = u * w / n) : i < w := by
  have hquot := Nat.div_mul_le_self (u * w) n
  have hbound : u * w ≤ 16 * (n - 1) * w := Nat.mul_le_mul_right w hu
  by_contra hge
  have hle : w ≤ i := Nat.le_of_not_lt hge
  have h1 : 16 * w * n ≤ u * w / n * n := Nat.mul_le_mul_right n (by omega)
  have h2 : 16 * (n - 1) * w < 16 * w * n := by
    calc 16 * (n - 1) * w < 16 * n * w := by
          refine Nat.mul_lt_mul_of_pos_right ?_ hw
          omega
      _ = 16 * w * n := by ring
  omega

/-! ## Lift (R114) -/

theorem liftStep_bounds {l lw : Nat} (hl : l ≤ 65535) (hlw : lw ≤ 65535) {k : Nat} (hk : k ≠ 0) :
    l ≤ liftStep l k lw ∧ liftStep l k lw ≤ 65535 ∧ 65535 * (liftStep l k lw - l) ≤ lw * (65535 - l) + 32767 ∧
      lw * (65535 - l) < 65535 * (liftStep l k lw - l) + 32768 := by
  have hprod : lw * (65535 - l) ≤ 65535 * (65535 - l) := Nat.mul_le_mul_right _ hlw
  rw [liftStep, if_neg hk]
  generalize lw * (65535 - l) = product at hprod
  omega

theorem liftStep_none {l k : Nat} (hk : k ≠ 0) : liftStep l k 0 = l := by
  rw [liftStep, if_neg hk, Nat.zero_mul]
  rfl

theorem liftStep_black {k lw : Nat} (hk : k ≠ 0) : liftStep 0 k lw = lw := by
  rw [liftStep, if_neg hk]
  omega

/-! ## Patterns (R130 to R134) -/

theorem nearNode_iff {s n x : Nat} (hs : 64 ≤ s) :
    nearNode s n x = true ↔ ∃ c, c < n ∧ c * s ≤ x + 1 ∧ x ≤ c * s + 1 := by
  have hsplit := Nat.div_add_mod' x s
  have hmod := Nat.mod_lt x (show 0 < s by omega)
  simp only [nearNode, Bool.or_eq_true, Bool.and_eq_true, decide_eq_true_eq]
  constructor
  · rintro (⟨hm, hn⟩ | ⟨hm, hn⟩)
    · exact ⟨x / s, hn, by omega, by omega⟩
    · refine ⟨x / s + 1, hn, ?_, ?_⟩ <;> rw [Nat.succ_mul] <;> omega
  · rintro ⟨c, hn, hlow, hhigh⟩
    rcases Nat.lt_or_ge x (c * s) with hlt | hge
    · obtain _ | d := c
      · omega
      rw [Nat.succ_mul] at hlow hhigh hlt
      have hdiv : x / s = d := Nat.div_eq_of_lt_le (by omega) (by rw [Nat.succ_mul]; omega)
      right
      rw [hdiv] at hsplit
      rw [hdiv]
      omega
    · have hdiv : x / s = c := Nat.div_eq_of_lt_le hge (by rw [Nat.succ_mul]; omega)
      left
      rw [hdiv] at hsplit
      rw [hdiv]
      omega

theorem FrameView.pixel_pattern {w : FrameView} {p : Pattern} (he : w.enabled = true) (hm : w.mode = .pattern p)
    (x y : Nat) : w.pixel x y = w.patternPixel x y p := by
  simp only [FrameView.pixel, he, hm, Bool.true_eq_false, if_false]

theorem FrameView.pixel_live {w : FrameView} (he : w.enabled = true) (hm : w.mode = .live) (x y : Nat) :
    w.pixel x y = w.livePixel x y := by
  simp only [FrameView.pixel, he, hm, Bool.true_eq_false, if_false]

/-- The pixels the link carries are those of the raster, in place (R100). -/
theorem FrameView.raster_get (w : FrameView) (x y : Nat) :
    (w.raster[y]?.bind fun l => l[x]?) = if x < w.w ∧ y < w.h then some (w.pixel x y) else none := by
  unfold FrameView.raster
  by_cases hy : y < w.h
  · by_cases hx : x < w.w
    · simp [hx, hy]
    · simp [hx, hy]
  · simp [hy]

end Sys2Proof.Machine

namespace Sys2Proof

open Sys2Proof.Machine

/-- Settles O19: stage by stage, from the cell of a pixel to the raster on the link. -/
theorem pixelStages : Obligations.PixelStages := by
  intro w hstep black inCell' mean stripe
  have hs : 0 < w.s := by omega
  have hs64 : 64 ≤ w.s := by omega
  refine ⟨fun x y => ⟨fun he => ?_, fun hm => ?_, fun he hm hp => ?_, fun q he hm hp => ?_⟩,
    fun x hw hx => exists_inCell hs hw hx, fun y hh hy => exists_inCell hs hh hy, fun x y i fx j fy hi hj => ?_,
    fun q ch => ⟨fun h => ?_, fun h => ?_, fun f u v xi yi ax ay hf hin hq hx hax hy hay => ?_⟩,
    fun table x k g => ?_, fun ch n => ⟨rfl, rfl, rfl⟩, fun l k lw hl hlw => ?_, fun x y he => ?_,
    fun s h => ⟨fun hn => ?_, fun hv => ?_⟩⟩
  · rw [FrameView.pixel, if_pos he]
    rfl
  · simp only [FrameView.pixel, hm, ite_self]
    rfl
  · rw [FrameView.pixel_live he hm, FrameView.livePixel, hp]
    rfl
  · rw [FrameView.pixel_live he hm, FrameView.livePixel, hp]
  · intro n00 n10 n01 n11 a b shows inside
    have hposition := FrameView.position_eq hs hi hj
    have hinside : ((⟨a, b⟩ : Position).onCanvas && (⟨a, b⟩ : Position).inTile w.tile) = true ↔ inside := by
      simp only [Position.onCanvas, Position.inTile, Bool.and_eq_true, decide_eq_true_eq, and_assoc]
      exact Iff.rfl
    refine ⟨fun h => ?_, fun h => ?_, fun hx hy => ?_, fun lo hi' hrange => ?_⟩
    · exact hposition.trans (if_pos ⟨h.1, hinside.2 h.2⟩)
    · exact hposition.trans (if_neg fun e => h ⟨e.1, hinside.1 e.2⟩)
    · subst hx hy
      exact ⟨cellMean_corner hs, cellMean_corner hs⟩
    · refine cellMean_between hs hi.2.2.1 hj.2.2.1 fun c hc => ?_
      simp only [List.mem_cons, List.not_mem_nil, or_false] at hc
      rcases hc with rfl | rfl | rfl | rfl
      exacts [hrange n00 (by simp), hrange n10 (by simp), hrange n01 (by simp), hrange n11 (by simp)]
  · simp only [FrameView.sample, h]
  · simp only [FrameView.sample, (InputState.dark_iff _).2 h, if_true]
    cases w.source <;> rfl
  · intro code xr yl
    have hlight : w.input.dark = false := by rcases hin with h | h | h <;> rw [h] <;> rfl
    have hsample : w.sample q ch = (code xi yi * (16 - ax) * (16 - ay) + code xr yi * ax * (16 - ay) +
        code xi yl * (16 - ax) * ay + code xr yl * ax * ay + 128) / 256 := by
      have ex : u * f.size.w / 4096 / 16 = xi := by omega
      have mx : u * f.size.w / 4096 % 16 = ax := by omega
      have ey : v * f.size.h / 2304 / 16 = yi := by omega
      have my : v * f.size.h / 2304 % 16 = ay := by omega
      simp only [FrameView.sample, hf, hlight, Bool.false_eq_true, if_false, hq, SourceFrame.sample, Int.toNat_natCast, ex,
        mx, ey, my]
      rfl
    refine ⟨hsample, fun hu hv hw hh => ⟨?_, ?_⟩, fun top h00 h10 h01 h11 => ?_⟩
    · exact sample_index_lt (by decide) hu hw hx
    · exact sample_index_lt (by decide) hv hh hy
    · rw [hsample]
      exact sampleMean_le hax.le hay.le h00 h10 h01 h11
  · intro lo hi hle
    refine ⟨fun hx hg => ?_, fun hx hg => ?_⟩
    · have hstep : decodeStep table x = interpolate lo hi g 8 16 := by
        rw [decodeStep, show x / 16 = k by omega, show x % 16 = g by omega]
      rw [hstep]
      exact ⟨interpolate_of_le hle g 8 16, le_interpolate hle g 8 16, interpolate_le hle hg.le (by decide)⟩
    · have hstep : encodeStep table x = interpolate lo hi g 128 256 := by
        rw [encodeStep, show x / 256 = k by omega, show x % 256 = g by omega]
      rw [hstep]
      exact ⟨interpolate_of_le hle g 128 256, le_interpolate hle g 128 256, interpolate_le hle hg.le (by decide)⟩
  · intro lo
    refine ⟨fun hk => if_pos hk, fun hk => ?_⟩
    obtain ⟨hlow, hhigh, hbelow, habove⟩ := liftStep_bounds hl hlw hk
    refine ⟨hlow, hhigh, hbelow, habove, fun h0 => ?_, fun h0 => ?_⟩
    · subst h0
      exact liftStep_none hk
    · subst h0
      exact liftStep_black hk
  · intro all dim
    refine ⟨fun c hm => ?_, fun l hm => ?_, fun l hm => ⟨fun hl => ?_, fun hl => ?_⟩,
      fun z l hm => ⟨fun hp => ?_, fun u v hp => ⟨fun hl => ?_, fun hl => ?_⟩⟩, fun hm => ⟨fun hp => ?_, fun q hp => ?_⟩⟩
    · exact FrameView.pixel_pattern he hm x y
    · intro line
      have hline : line ↔ (x % w.s = 0 ∨ y % w.s = 0 ∨ x = w.w - 1 ∨ y = w.h - 1) := by
        simp only [line, Nat.dvd_iff_mod_eq_zero]
      have hpixel := FrameView.pixel_pattern he hm x y
      exact ⟨fun hl => hpixel.trans (congrArg w.raw (if_pos (hline.1 hl))),
        fun hl => hpixel.trans (congrArg w.raw (if_neg (mt hline.2 hl)))⟩
    · have hnear : (nearNode w.s w.columns x && nearNode w.s w.rows y) = true := by
        rw [Bool.and_eq_true, nearNode_iff hs64, nearNode_iff hs64]
        exact hl
      exact (FrameView.pixel_pattern he hm x y).trans (congrArg w.raw (if_pos hnear))
    · have hfar : ¬ (nearNode w.s w.columns x && nearNode w.s w.rows y) = true := by
        rw [Bool.and_eq_true, nearNode_iff hs64, nearNode_iff hs64]
        exact hl
      exact (FrameView.pixel_pattern he hm x y).trans (congrArg w.raw (if_neg hfar))
    · rw [FrameView.pixel_pattern he hm, FrameView.patternPixel, hp]
      rfl
    · rw [FrameView.pixel_pattern he hm, FrameView.patternPixel, hp]
      simp only [Int.toNat_natCast]
      rw [if_pos (by simpa only [Nat.dvd_iff_mod_eq_zero] using hl)]
    · rw [FrameView.pixel_pattern he hm, FrameView.patternPixel, hp]
      simp only [Int.toNat_natCast]
      rw [if_neg (by simpa only [Nat.dvd_iff_mod_eq_zero] using hl)]
    · rw [FrameView.pixel_pattern he hm, FrameView.patternPixel, hp]
      rfl
    · rw [FrameView.pixel_pattern he hm, FrameView.patternPixel, hp]
      rfl
  · exact ⟨by rw [State.outputFrame, hn]; rfl, fun x y => by rw [State.outputPixel, hn]⟩
  · have hpixel : ∀ x y, s.outputPixel h x y = if x < w.w ∧ y < w.h then some (w.pixel x y) else none := fun x y => by
      rw [State.outputPixel, hv]
    refine ⟨w.raster, by rw [State.outputFrame, hv]; rfl, by simp [FrameView.raster], fun l hl => ?_,
      fun x y => ⟨?_, fun hx hy => ?_⟩⟩
    · obtain ⟨y, -, rfl⟩ := List.mem_map.1 hl
      simp
    · rw [hpixel, FrameView.raster_get]
    · rw [hpixel, if_pos ⟨hx, hy⟩]

end Sys2Proof
